-- ==== Sys2Proof/Word.lean ====
section
/-! DEFINITION. The words that travel on the host port (30_encoding.md R43, R47; 00_scope.md R7). The lanes
themselves are `BitVec W`, W being the lane width of `Config.lean`. -/

namespace Sys2Proof

/-- The command word `cmd[31:0]` (R43). -/
abbrev CmdWord := BitVec 32

/-- The data words `cmd_wdata[63:0]` and `rsp_rdata[63:0]` (R7, R47, R54). -/
abbrev DataWord := BitVec 64

/-- What the host presents on the command channel: a command word and the write data that travels with every
command word (R43, R47). -/
structure Command where
  word  : CmdWord
  wdata : DataWord
deriving DecidableEq, Repr

end Sys2Proof
end

