-- ==== Sys2Proof/Syntax.lean ====
section
/-! DEFINITION. The commands of the engine, one constructor per row of spec/opcode_table.json (30_encoding.md R44). -/

namespace Sys2Proof

/-- A decoded command word. The write data of WRLANE is not part of the word: it travels beside it (R47) and stands
in the machine's state when the command is performed. -/
inductive Instr where
  /-- PERMUTE nr, the round count `nr = cmd[7:0]` (R45, R72). -/
  | permute (nr : BitVec 8)
  /-- WRLANE i, the lane index `i = cmd[4:0]` (R46, R82). -/
  | wrlane (i : BitVec 5)
  /-- RDLANE i, the lane index `i = cmd[4:0]` (R46, R84). -/
  | rdlane (i : BitVec 5)
deriving DecidableEq, Repr

end Sys2Proof
end

