-- ==== Sys2Proof/WellFormed.lean ====
section
/-! DEFINITION. Which commands the encoding admits (30_encoding.md R45, R46). -/

namespace Sys2Proof

/-- Every round count 0..255 is encodable (R45); a lane index is legal when it is 0..24 (R46, R49). -/
def Instr.wf : Instr → Bool
  | .permute _ => true
  | .wrlane i => decide (i.toNat ≤ 24)
  | .rdlane i => decide (i.toNat ≤ 24)

end Sys2Proof
end

