-- ==== Sys2Proof/Decode.lean ====
section
/-! DEFINITION. The total decoder of command words (30_encoding.md R43 to R51), the encoder beside it, and the opcode
table as mask and match rows (spec/opcode_table.json). A command is always exactly one 32-bit word (R51), and the
engine has no bytes and no byte order (20_memory.md R35). -/

namespace Sys2Proof

/-- The four cases of an illegal word (R49), in the order of its bullets. -/
inductive Illegal where
  /-- OP is none of 0x01, 0x02, 0x03. -/
  | unknownOpcode
  /-- OP = 0x01 with a bit of cmd[23:8] set. -/
  | permuteReserved
  /-- OP = 0x02 or 0x03 with a bit of cmd[23:5] set. -/
  | laneReserved
  /-- OP = 0x02 or 0x03 with cmd[4:0] in 25..31. -/
  | laneIndex
deriving DecidableEq, Repr

/-- `OP = cmd[31:24]` (R43). -/
def opField (cmd : CmdWord) : BitVec 8 := cmd.extractLsb' 24 8

/-- `NR = cmd[7:0]` (R43, R45). -/
def nrField (cmd : CmdWord) : BitVec 8 := cmd.extractLsb' 0 8

/-- `LANE = cmd[4:0]` (R43, R46). -/
def laneField (cmd : CmdWord) : BitVec 5 := cmd.extractLsb' 0 5

/-- The reserved bits of the PERMUTE form, cmd[23:8] (R43). -/
def permuteReservedField (cmd : CmdWord) : BitVec 16 := cmd.extractLsb' 8 16

/-- The reserved bits of the LANE form, cmd[23:5] (R43). -/
def laneReservedField (cmd : CmdWord) : BitVec 19 := cmd.extractLsb' 5 19

/-- The LANE form: reserved bits clear and an index that names a lane (R46, R48). -/
def decodeLaneForm (make : BitVec 5 → Instr) (cmd : CmdWord) : Except Illegal Instr :=
  if laneReservedField cmd ≠ 0 then .error .laneReserved
  else if laneField cmd ≤ 24 then .ok (make (laneField cmd))
  else .error .laneIndex

/-- `decode(cmd)` of R48: every 32-bit word is one of the three commands or illegal. It depends neither on W nor on
the state. -/
def decode (cmd : CmdWord) : Except Illegal Instr :=
  if opField cmd = 0x01 then
    if permuteReservedField cmd = 0 then .ok (.permute (nrField cmd)) else .error .permuteReserved
  else if opField cmd = 0x02 then decodeLaneForm .wrlane cmd
  else if opField cmd = 0x03 then decodeLaneForm .rdlane cmd
  else .error .unknownOpcode

/-- The opcode of a command (R44). -/
def opcodeOf : Instr → BitVec 8
  | .permute _ => 0x01
  | .wrlane _ => 0x02
  | .rdlane _ => 0x03

/-- The word of a command, from the field layout of R43. -/
def encode (i : Instr) : CmdWord :=
  match i with
  | .permute nr => opcodeOf i ++ (0 : BitVec 16) ++ nr
  | .wrlane lane => opcodeOf i ++ (0 : BitVec 19) ++ lane
  | .rdlane lane => opcodeOf i ++ (0 : BitVec 19) ++ lane

/-- One row of spec/opcode_table.json: a word belongs to the row when its masked bits match and, in the LANE form,
the row's extra condition `cmd[4:0] <= 24` holds. -/
structure OpcodeRow where
  mnemonic : String
  mask     : CmdWord
  pattern  : CmdWord
  hasLane  : Bool
deriving DecidableEq, Repr

/-- spec/opcode_table.json. -/
def opcodeTable : List OpcodeRow :=
  [⟨"PERMUTE", 0xFFFFFF00, 0x01000000, false⟩,
   ⟨"WRLANE", 0xFFFFFFE0, 0x02000000, true⟩,
   ⟨"RDLANE", 0xFFFFFFE0, 0x03000000, true⟩]

/-- The word belongs to the row. -/
def OpcodeRow.accepts (r : OpcodeRow) (cmd : CmdWord) : Bool :=
  (cmd &&& r.mask == r.pattern) && (!r.hasLane || decide (laneField cmd ≤ 24))

/-- The mnemonic of a command as spec/opcode_table.json spells it. -/
def mnemonicOf : Instr → String
  | .permute _ => "PERMUTE"
  | .wrlane _ => "WRLANE"
  | .rdlane _ => "RDLANE"

/-- The 32-bit word with the bits `w`, those from `nbits` on being zero. -/
def tableWord (nbits w : Nat) : CmdWord := BitVec.ofNat 32 (w % 2 ^ nbits)

/-- What the decoder reads from a table word; `none` where it refuses. -/
def decodeTableWord (nbits w : Nat) : Option Instr :=
  (decode (tableWord nbits w)).toOption

end Sys2Proof
end

