-- ==== Sys2Proof/Config.lean ====
section
/-! DEFINITION. What an instance fixes for good (the lane width W, 00_scope.md R5, and RESET_KIND, R7) and the free values
the spec leaves open (the contents of a lane that nothing has written since reset, 10_state.md R17 and R25). -/

namespace Sys2Proof

/-- The lane width W, "one of exactly 8, 16, 32, 64" (R5). Any other width is refused at elaboration, so it has no
constructor here. -/
inductive Width where
  | w8
  | w16
  | w32
  | w64
deriving DecidableEq, Repr

/-- W as a number of bits (R5). -/
def Width.bits : Width → Nat
  | .w8 => 8
  | .w16 => 16
  | .w32 => 32
  | .w64 => 64

/-- The state's 25 lanes "all of one bit-width" (R15, R16). -/
abbrev Lanes (w : Nat) := Vector (BitVec w) 25

/-- The width of the instance that `State.reset` describes. DESIGN CHOICE (log entry 1), unsafe: the spec leaves W
a parameter (R5, U3). `State.resetAt` is the reset state at any width, and a state carries its own width, so no
statement over all states rests on this value. -/
def Config.width : Width := .w64

/-- The level at which the `rst` input is active (R102). -/
inductive Polarity where
  | activeHigh
  | activeLow
deriving DecidableEq, Repr

/-- Whether the `rst` input acts at a clock edge or at once (R102). -/
inductive ResetTiming where
  | synchronous
  | asynchronous
deriving DecidableEq, Repr

/-- The OPEN parameter `RESET_KIND`, "polarity and synchronicity of the reset input" (R7, R102). -/
structure ResetKind where
  polarity : Polarity
  timing   : ResetTiming
deriving DecidableEq, Repr

/-- The RESET_KIND of the instance that `State.reset` describes. DESIGN CHOICE (log entry 14), unsafe: the spec leaves it
OPEN (R7, U8). A state carries its own, and `State.resetAt` takes it as an argument, so no statement over all states
rests on this value. -/
def Config.resetKind : ResetKind := ⟨.activeHigh, .synchronous⟩

/-- FREE VALUE (log entry 2), safe: what a lane that nothing has written since the last reset holds on the chip
(R17, R25, R85: "a chip returns some value"). It depends on how many resets there have been and on the lane's
index; its low W bits are the lane. It has no body, so nothing can be proved of its value. -/
opaque Config.unwrittenLane (resets lane : Nat) : DataWord

end Sys2Proof
end

