-- ==== Sys2Proof/Machine/State.lean ====
section
/-! DEFINITION. The state of the engine and of the host at its port (10_state.md R15 to R25, 30_encoding.md R52 to
R54, 70_reset_and_hazards.md R102, R114, R115), as plain data. -/

namespace Sys2Proof.Machine

/-- The one model fault of the spec (60_exceptions.md R90). It is recorded in `State.modelFault`, where no later step
clears it; no step ANSWERS with it. -/
inductive Fault where
  /-- Recorded by RDLANE and by PERMUTE with 1 <= nr <= NR_MAX(W) when they read a lane that nothing has written since
  reset (R80, R85). Safe: the lane's value is the free value `Config.unwrittenLane` (log entries 2 and 3). -/
  | unwrittenLane
deriving DecidableEq, Repr

/-- The reasons the model may refuse an instruction. -/
inductive Refusal where
  /-- Raised by no arm of `exec`: every command of the opcode table has its meaning. Safe. -/
  | notModelled (mnemonic : String)
deriving DecidableEq, Repr

/-- The response codes (R54). The fourth code, 0b11, is "reserved, never produced", so it has no constructor. -/
inductive RspCode where
  /-- RSP_OK, 0b00. -/
  | ok
  /-- RSP_ROUND_COUNT_TOO_HIGH, 0b01. -/
  | roundCountTooHigh
  /-- RSP_ILLEGAL_COMMAND, 0b10. -/
  | illegalCommand
deriving DecidableEq, Repr

/-- The phase register PHASE (R18). -/
inductive Phase where
  /-- No command in progress. -/
  | idle
  /-- A PERMUTE in progress: the next round uses RC[k], and rounds remain while k < e. -/
  | running (k e : Nat)
  /-- A command has finished; its response waits for the host to take it. -/
  | responding (code : RspCode) (rdata : DataWord)
deriving DecidableEq, Repr

/-- A response the host has taken (R54). -/
structure Response where
  code  : RspCode
  rdata : DataWord
deriving DecidableEq, Repr

/-- What the host drives on `rst` and `rsp_ready` during one step (R52, R114). -/
inductive HostMove where
  /-- rst inactive, rsp_ready = 1: a presented response is taken. -/
  | takes
  /-- rst inactive, rsp_ready = 0: a presented response is left waiting. -/
  | waits
  /-- rst active. -/
  | resets
deriving DecidableEq, Repr

/-- The engine and the host at its port. -/
structure State where
  /-- W, fixed when the instance is elaborated (R5, R22); no step writes it. -/
  width      : Width
  /-- RESET_KIND, fixed with the instance (R7, R102); it decides the level on rst and nothing else. -/
  resetKind  : ResetKind
  /-- How many resets there have been: the argument of the free value. The model's own (log entry 2). -/
  resets     : Nat
  /-- S[0..24], the state register file (R15). -/
  lanes      : Lanes width.bits
  /-- WR[0..24]: lane i holds a defined value (R17). -/
  written    : Vector Bool 25
  /-- PHASE (R18). -/
  phase      : Phase
  /-- The write data sampled with the command being performed (R47, R53). -/
  wdata      : DataWord
  /-- The last command accepted, while the host has not taken its response: the model's own record for the end of a run
  (R115; log entry 15). A reset that abandons the command leaves it here, since its response is never taken. -/
  unanswered : Option Command
  /-- The host's commands that the engine has not accepted yet, in the order the host presents them; the head is
  what stands on cmd and cmd_wdata, and cmd_valid = 1 while there is one (R52, R53). -/
  commands   : List Command
  /-- The responses the host has taken, oldest first (R115: the observation of a run). -/
  responses  : List Response
  /-- What the host drives now on rst and rsp_ready. -/
  host       : HostMove
  /-- What the host drives at the steps after this one; when it is empty the host keeps driving `host`. -/
  script     : List HostMove
  /-- The model fault recorded so far (R87, R90); the model's own, no bit of the hardware. -/
  modelFault : Option Fault
deriving DecidableEq, Repr

/-- The machine right after reset, at any width and RESET_KIND (R25, R102). The lanes are unspecified after reset: WR is
all false, so no read sees the zeros that stand here (DESIGN CHOICE, log entry 4). -/
def State.resetAt (w : Width) (kind : ResetKind := Config.resetKind) : State where
  width := w
  resetKind := kind
  resets := 0
  lanes := Vector.replicate 25 0
  written := Vector.replicate 25 false
  phase := .idle
  wdata := 0
  unanswered := none
  commands := []
  responses := []
  host := .takes
  script := []
  modelFault := none

/-- The machine right after reset, at the width of `Config.width` and the RESET_KIND of `Config.resetKind`. -/
def State.reset : State := State.resetAt Config.width Config.resetKind

end Sys2Proof.Machine
end

