-- ==== Sys2Proof/Machine/Flags.lean ====
section
/-! DEFINITION. The engine has no flags, condition codes or status registers (10_state.md R21, R22). The only status a
command produces is its 2-bit response code (30_encoding.md R54). -/

namespace Sys2Proof.Machine

/-- `rsp_code[1:0]` (R54). -/
def RspCode.bits : RspCode → BitVec 2
  | .ok => 0b00
  | .roundCountTooHigh => 0b01
  | .illegalCommand => 0b10

end Sys2Proof.Machine
end

