-- ==== Sys2Proof/Machine/Operands.lean ====
section
/-! DEFINITION. Lane values and lane coordinates: truncation, zero-extension, rotation, the 5x5 grid and the lane-index
operand (00_scope.md R8 to R11, 20_memory.md R27). Everything is for any lane width w, as the round is (40_round.md
R67). -/

namespace Sys2Proof.Machine

/-- `trunc_W(v) = v[W-1:0]` (R10). -/
def trunc (w : Nat) (v : DataWord) : BitVec w := v.setWidth w

/-- `zext_64(v)` (R8, R54). -/
def zext64 {w : Nat} (v : BitVec w) : DataWord := v.setWidth 64

/-- `rotl_W(v, n)`, the circular left rotation by n mod W (R9). A shift of a `BitVec w` keeps its low w bits, which is
the rule's mask. -/
def rotl {w : Nat} (v : BitVec w) (n : Nat) : BitVec w :=
  if n % w = 0 then v else (v <<< (n % w)) ||| (v >>> (w - n % w))

/-- `A(x, y) = A[5y + x]` (R11). -/
def at_ {w : Nat} (A : Lanes w) (x y : Fin 5) : BitVec w := A[5 * y.val + x.val]

/-- The column of a lane index, `i mod 5` (R11). -/
def column (i : Fin 25) : Fin 5 := ⟨i.val % 5, by omega⟩

/-- The row of a lane index, `i / 5` (R11). -/
def row (i : Fin 25) : Fin 5 := ⟨i.val / 5, by omega⟩

/-- The lane index of a position, `5y + x` (R11). -/
def indexOf (x y : Fin 5) : Fin 25 := ⟨5 * y.val + x.val, by omega⟩

/-- The lanes whose value at (x, y) is `f x y`. -/
def grid {w : Nat} (f : Fin 5 → Fin 5 → BitVec w) : Lanes w :=
  Vector.ofFn fun i => f (column i) (row i)

/-- The lane an index operand names: 0..24 name lanes, 25..31 name none (R27, R46). -/
def laneIndex (i : BitVec 5) : Option (Fin 25) :=
  if h : i.toNat < 25 then some ⟨i.toNat, h⟩ else none

end Sys2Proof.Machine
end

