-- ==== Sys2Proof/Machine/Tables.lean ====
section
/-! DEFINITION. `rotation_and_permutation_lut` and the round-constant ROM (20_memory.md R28 to R34): read-only, the
same for every W, not state (10_state.md R24). -/

namespace Sys2Proof.Machine

/-- The rows of R28's table, which lists RC[k] beside RC[k + 12]. -/
def roundConstantRows : Vector (DataWord × DataWord) 12 :=
  #v[(0x0000000000000001, 0x000000008000808B),
     (0x0000000000008082, 0x800000000000008B),
     (0x800000000000808A, 0x8000000000008089),
     (0x8000000080008000, 0x8000000000008003),
     (0x000000000000808B, 0x8000000000008002),
     (0x0000000080000001, 0x8000000000000080),
     (0x8000000080008081, 0x000000000000800A),
     (0x8000000000008009, 0x800000008000000A),
     (0x000000000000008A, 0x8000000080008081),
     (0x0000000000000088, 0x8000000000008080),
     (0x0000000080008009, 0x0000000080000001),
     (0x000000008000000A, 0x8000000080008008)]

/-- The round constants RC[0..23] (R28): the left column of the table, then the right one. -/
def RC : Vector DataWord 24 :=
  Vector.ofFn fun k : Fin 24 => if h : k.val < 12 then roundConstantRows[k.val].1 else roundConstantRows[k.val - 12].2

/-- The rotation offsets RHO[0..23] (R30). -/
def RHO : Vector Nat 24 :=
  #v[1, 3, 6, 10, 15, 21, 28, 36, 45, 55, 2, 14, 27, 41, 56, 8, 25, 43, 62, 18, 39, 61, 20, 44]

/-- The target indices PI[0..23] (R31). -/
def PI : Vector (Fin 25) 24 :=
  #v[10, 7, 11, 17, 18, 3, 5, 16, 8, 21, 24, 4, 15, 23, 19, 13, 12, 2, 20, 14, 22, 9, 6, 1]

/-- The lane that step i of the chain moves: `SRC[0] = 1`, `SRC[i] = PI[i-1]` (R32). -/
def SRC (i : Fin 24) : Fin 25 :=
  if i.val = 0 then 1 else PI[i.val - 1]

/-- The offset grid r[x,y], rows y = 0..4, each x = 0..4 (R33). -/
def rGrid : Vector Nat 25 :=
  #v[ 0,  1, 62, 28, 27,
     36, 44,  6, 55, 20,
      3, 10, 43, 25, 39,
     41, 45, 15, 21,  8,
     18,  2, 61, 56, 14]

/-- The destination lane of S(x,y), rows y = 0..4, each x = 0..4 (R33). -/
def destGrid : Vector (Fin 25) 25 :=
  #v[ 0, 10, 20,  5, 15,
     16,  1, 11, 21,  6,
      7, 17,  2, 12, 22,
     23,  8, 18,  3, 13,
     14, 24,  9, 19,  4]

end Sys2Proof.Machine
end

