-- ==== Sys2Proof/Machine/Round.lean ====
section
/-! DEFINITION. `theta_rho_pi_chi_iota_round` (40_round.md R58 to R68): the five steps, each a function of the whole
state it starts from (R66), for any lane width (R67). Its scratch has no value outside a round (10_state.md R23). -/

namespace Sys2Proof.Machine

/-- The parity `C[x]` of column x (R59). -/
def columnParity {w : Nat} (A : Lanes w) (x : Fin 5) : BitVec w :=
  at_ A x 0 ^^^ at_ A x 1 ^^^ at_ A x 2 ^^^ at_ A x 3 ^^^ at_ A x 4

/-- `D[x] = C[(x+4) mod 5] ^ rotl_W(C[(x+1) mod 5], 1)` (R60). -/
def thetaD {w : Nat} (A : Lanes w) (x : Fin 5) : BitVec w :=
  columnParity A (x + 4) ^^^ rotl (columnParity A (x + 1)) 1

/-- `Theta(A)`: D[x] XORed into every lane of column x (R60). -/
def theta {w : Nat} (A : Lanes w) : Lanes w :=
  grid fun x y => at_ A x y ^^^ thetaD A x

/-- `RhoPi(A)` in closed form: `B[PI[i]] <- rotl_W(A[SRC[i]], RHO[i])`, the origin kept (R61). -/
def rhoPi {w : Nat} (A : Lanes w) : Lanes w :=
  (List.finRange 24).foldl (fun B i => B.set (PI[i.val]).val (rotl A[(SRC i).val] RHO[i.val])) A

/-- One step of the in-place chain on the lanes and the carry `last` (R62). -/
def rhoPiChainStep {w : Nat} (S : Lanes w × BitVec w) (i : Fin 24) : Lanes w × BitVec w :=
  (S.1.set (PI[i.val]).val (rotl S.2 RHO[i.val]), S.1[(PI[i.val]).val])

/-- `RhoPiInPlace(S)`: the chained traversal in table index order, started with lane 1 in the carry (R62, R111). -/
def rhoPiInPlace {w : Nat} (S : Lanes w) : Lanes w :=
  ((List.finRange 24).foldl rhoPiChainStep (S, S[1])).1

/-- `Chi(A)`: every operand from the row before the step (R63, R112). -/
def chi {w : Nat} (A : Lanes w) : Lanes w :=
  grid fun x y => at_ A x y ^^^ (~~~ at_ A (x + 1) y &&& at_ A (x + 2) y)

/-- `Iota(A, c)`: c XORed into lane 0 only (R64). -/
def iota {w : Nat} (A : Lanes w) (c : BitVec w) : Lanes w :=
  A.set 0 (A[0] ^^^ c)

/-- `Round(A, c) = Iota(Chi(RhoPi(Theta(A))), c)` (R58). -/
def round {w : Nat} (A : Lanes w) (c : BitVec w) : Lanes w :=
  iota (chi (rhoPi (theta A))) c

end Sys2Proof.Machine
end

