-- ==== Sys2Proof/Machine/Window.lean ====
section
/-! DEFINITION. `round_constant_window_mapper` (00_scope.md R6, 41_permute.md R69 to R71) and the function KeccakP that a
PERMUTE computes (R74). -/

namespace Sys2Proof.Machine

/-- `NR_MAX(W)`, the round-count ceiling (R6). -/
def nrMax : Width → Nat
  | .w8 => 18
  | .w16 => 20
  | .w32 => 22
  | .w64 => 24

/-- The slice RC[start] .. RC[stop-1] that one PERMUTE uses (R69). -/
structure Window where
  start : Nat
  stop  : Nat
deriving DecidableEq, Repr

/-- `WindowMap(W, nr)`: `none` where the round count is refused (R69). -/
def windowMap (w : Width) (nr : BitVec 8) : Option Window :=
  if nr.toNat > nrMax w then none else some ⟨nrMax w - nr.toNat, nrMax w⟩

/-- `trunc_W(RC[k])` (R29). -/
def roundConstant (w : Nat) (k : Fin 24) : BitVec w := trunc w RC[k.val]

/-- The round with the constant RC[k]. There is no RC[k] from k = 24 on, where no reachable phase stands (R18), and no
round is applied there (log entry 5). -/
def roundAt {w : Nat} (k : Nat) (A : Lanes w) : Lanes w :=
  if h : k < 24 then round A (roundConstant w ⟨k, h⟩) else A

/-- n rounds with the constants RC[k], RC[k+1], ... in increasing index order (R71). -/
def roundsFrom {w : Nat} : Nat → Nat → Lanes w → Lanes w
  | _, 0, A => A
  | k, n + 1, A => roundsFrom (k + 1) n (roundAt k A)

/-- `KeccakP(W, A, nr)`: the last nr rounds of KECCAK-f[25W] (R74). -/
def keccakP (w : Width) (A : Lanes w.bits) (nr : Nat) : Lanes w.bits :=
  roundsFrom (nrMax w - nr) nr A

end Sys2Proof.Machine
end

