-- ==== Sys2Proof/Machine/Ops.lean ====
section
/-! DEFINITION. The named operations over the state: responding and raising an error, the lane register file with its
written-mask, the round step, the host's side of the port, and reset. -/

namespace Sys2Proof.Machine

/-! ### The response channel and the two errors (30_encoding.md R53, R54; 60_exceptions.md R88, R89) -/

/-- `respond(code, rdata)`: the command ends and its response waits for the host (R12). -/
def State.respond (s : State) (code : RspCode) (rdata : DataWord) : State :=
  { s with phase := .responding code rdata }

/-- `raise RoundCountTooHigh`: the response alone, no other change (R12, R88). -/
def State.raiseRoundCountTooHigh (s : State) : State := s.respond .roundCountTooHigh 0

/-- `raise IllegalCommand`: the response alone, no other change (R12, R89). -/
def State.raiseIllegalCommand (s : State) : State := s.respond .illegalCommand 0

/-- `cmd_ready`: 1 exactly when PHASE = Idle (R52). -/
def State.cmdReady (s : State) : Bool := decide (s.phase = .idle)

/-- `cmd_valid`: the host presents a command (R52). -/
def State.cmdValid (s : State) : Bool := !s.commands.isEmpty

/-- The response on the response channel: `some` exactly when `rsp_valid` = 1, that is when PHASE = Responding (R52). -/
def State.response (s : State) : Option Response :=
  match s.phase with
  | .responding code rdata => some ⟨code, rdata⟩
  | _ => none

/-! ### The lane register file and its written-mask (10_state.md R15 to R17) -/

/-- Lane j as it stands in the register file, zero-extended: a term of the claims, no observation of the host, which
sees a lane through `readLane`. -/
def State.lane64 (s : State) (j : Fin 25) : DataWord := zext64 s.lanes[j.val]

/-- What a read of lane j gives: its value, or the free value where nothing has written it since reset (R17, R85). -/
def State.readLane (s : State) (j : Fin 25) : BitVec s.width.bits :=
  if s.written[j.val] then s.lanes[j.val] else trunc s.width.bits (Config.unwrittenLane s.resets j.val)

/-- `S[j] <- v; WR[j] <- true` (R82). -/
def State.writeLane (s : State) (j : Fin 25) (v : BitVec s.width.bits) : State :=
  { s with lanes := s.lanes.set j.val v, written := s.written.set j.val true }

/-- Every lane holds a defined value: WR[i] is true for every i (R17). -/
def State.allWritten (s : State) : Bool := s.written.toList.all id

/-- `model_fault(UnwrittenLane)`, as far as a read of lane j raises it: an unwritten lane records it for good (R85,
R90). -/
def State.noteRead (s : State) (j : Fin 25) : State :=
  { s with modelFault := if s.written[j.val] then s.modelFault else some .unwrittenLane }

/-- The read of all 25 lanes by a PERMUTE: where one is unwritten, the model fault is recorded and the rounds work on
whatever the lanes hold, which is the free value (R80). -/
def State.noteReadAll (s : State) : State :=
  { s with
    lanes := if s.allWritten then s.lanes else Vector.ofFn fun j => s.readLane j
    modelFault := if s.allWritten then s.modelFault else some .unwrittenLane }

/-! ### The round step (41_permute.md R72, R73) -/

/-- `PHASE <- Running(start, end)` (R72). -/
def State.startRounds (s : State) (w : Window) : State := { s with phase := .running w.start w.stop }

/-- `RoundStep` at PHASE = Running(k, e): all 25 lanes at once, then the response or the next index (R73). The last
round sets every WR[i] (R17). -/
def State.roundStep (s : State) (k e : Nat) : State :=
  { s with
    lanes := roundAt k s.lanes
    written := if k + 1 = e then Vector.replicate 25 true else s.written
    phase := if k + 1 = e then .responding .ok 0 else .running (k + 1) e }

/-! ### The host's side of the port (30_encoding.md R53; 70_reset_and_hazards.md R107, R108, R114) -/

/-- The host drives rst. -/
def State.resetAsserted (s : State) : Bool := decide (s.host = .resets)

/-- The level on the `rst` input: the active level of RESET_KIND exactly while the host drives a reset (R52, R102). -/
def State.rst (s : State) : Bool :=
  match s.resetKind.polarity with
  | .activeHigh => s.resetAsserted
  | .activeLow => !s.resetAsserted

/-- `rsp_ready`. -/
def State.rspReady (s : State) : Bool := decide (s.host = .takes)

/-- After a step the host drives the next move of its script; with none left it keeps driving the present one. -/
def State.hostTurn (s : State) : State :=
  { s with host := s.script.headD s.host, script := s.script.tail }

/-- Acceptance of the command c: cmd and cmd_wdata are sampled, the host presents the next command, and c awaits its
response (R53). -/
def State.accept (s : State) (c : Command) (rest : List Command) : State :=
  { s with commands := rest, wdata := c.wdata, unanswered := some c }

/-- The host takes the response; PHASE returns to Idle and no command awaits a response (R53). -/
def State.takeResponse (s : State) (code : RspCode) (rdata : DataWord) : State :=
  { s with phase := .idle, responses := s.responses ++ [⟨code, rdata⟩], unanswered := none }

/-- The host presents further commands after those it already has. -/
def State.present (s : State) (cs : List Command) : State := { s with commands := s.commands ++ cs }

/-! ### Reset (10_state.md R25; 70_reset_and_hazards.md R102, R103) -/

/-- Reset takes effect: PHASE <- Idle, WR all false, a command in progress and its response dropped, and the lanes left
unspecified: each holds the free value of this reset, so that nothing is claimed of them (R102, R103; log entry 2). -/
def State.resetEngine (s : State) : State :=
  { s with
    phase := .idle
    lanes := Vector.ofFn fun j : Fin 25 => trunc s.width.bits (Config.unwrittenLane (s.resets + 1) j.val)
    written := Vector.replicate 25 false
    resets := s.resets + 1 }

/-- PHASE <- Idle with rst inactive and `c` at the head of the host's commands: what it takes for the next step to
accept and perform `c`. -/
def State.placeCommand (s : State) (c : Command) : State :=
  { s with
    phase := .idle
    host := if s.resetAsserted then .takes else s.host
    commands := c :: s.commands }

end Sys2Proof.Machine
end

