-- ==== Sys2Proof/Machine/LaneAccess.lean ====
section
/-! DEFINITION. The lane access commands WRLANE and RDLANE (42_lane_access.md R82 to R86). An index of 25..31 names no
lane, and the command is refused with RSP_ILLEGAL_COMMAND (20_memory.md R27); the decoder never gives one. -/

namespace Sys2Proof.Machine

/-- WRLANE i: `S[i] <- wdata[W-1:0]; WR[i] <- true`, response RSP_OK (R82, R83). -/
def execWrlane (i : BitVec 5) (s : State) : Host.Outcome State Fault Refusal :=
  match laneIndex i with
  | none => .next s.raiseIllegalCommand
  | some j => .next ((s.writeLane j (trunc s.width.bits s.wdata)).respond .ok 0)

/-- RDLANE i: response RSP_OK with `zext_64(S[i])` (R84). An unwritten lane records the model fault, and the data is
the free value of the lane (R85; log entry 3). -/
def execRdlane (i : BitVec 5) (s : State) : Host.Outcome State Fault Refusal :=
  match laneIndex i with
  | none => .next s.raiseIllegalCommand
  | some j => .next ((s.noteRead j).respond .ok (zext64 (s.readLane j)))

end Sys2Proof.Machine
end

