-- ==== Sys2Proof/Machine/Permute.lean ====
section
/-! DEFINITION. The PERMUTE command (41_permute.md R72 to R81). -/

namespace Sys2Proof.Machine

/-- PERMUTE nr at acceptance (R72): the round-count check, then nr = 0, then the read of the lanes, in the order of
60_exceptions.md R91. The rounds follow as round steps (R73). -/
def execPermute (nr : BitVec 8) (s : State) : Host.Outcome State Fault Refusal :=
  match windowMap s.width nr with
  | none => .next s.raiseRoundCountTooHigh
  | some w => if nr = 0 then .next (s.respond .ok 0) else .next (s.noteReadAll.startRounds w)

end Sys2Proof.Machine
end

