-- ==== Sys2Proof/Machine/Dispatch.lean ====
section
/-! DEFINITION. One arm per command of the opcode table. -/

namespace Sys2Proof.Machine

def exec (i : Instr) (s : State) : Host.Outcome State Fault Refusal :=
  match i with
  | .permute nr => Sys2Proof.Machine.execPermute nr s
  | .wrlane lane => Sys2Proof.Machine.execWrlane lane s
  | .rdlane lane => Sys2Proof.Machine.execRdlane lane s

end Sys2Proof.Machine
end

