-- ==== Sys2Proof/Machine/Step.lean ====
section
/-! DEFINITION. One step of the machine: a reset, an acceptance, a round step, a response taken, or a wait
(10_state.md R18; 30_encoding.md R53; 70_reset_and_hazards.md R102, R107). -/

namespace Sys2Proof.Machine

/-- A sampled command word is decoded and performed; an illegal word gets its error response (R48, R49). -/
def perform (cmd : CmdWord) (s : State) : Host.Outcome State Fault Refusal :=
  match decode cmd with
  | .ok i => exec i s
  | .error _ => .next s.raiseIllegalCommand

/-- One step. The host drives the next move of its script at every step (`hostTurn`). -/
def step (s : State) : Host.Outcome State Fault Refusal :=
  if s.resetAsserted then .next s.hostTurn.resetEngine
  else
    match s.phase with
    | .idle =>
      match s.commands with
      | [] => .next s.hostTurn
      | c :: rest => perform c.word (s.hostTurn.accept c rest)
    | .running k e => .next (s.hostTurn.roundStep k e)
    | .responding code rdata =>
      .next (if s.rspReady then s.hostTurn.takeResponse code rdata else s.hostTurn)

/-- The state with the table word `w` as the command the next step accepts and performs, write data zero. The engine
fetches nothing (10_state.md R19): a command comes from the host's port, so it is put at the head of the host's
commands, with PHASE = Idle and rst inactive (log entry 6). -/
def State.withFetchWord (s : State) (nbits w : Nat) : State :=
  s.placeCommand ⟨tableWord nbits w, 0⟩

end Sys2Proof.Machine
end

