-- ==== Sys2Proof/Machine/Assembler.lean ====
section
/-! DEFINITION. The assembler's lines and the pseudo-instructions (30_encoding.md R55, R56): the command each line stands
for, the lines each pseudo-instruction expands to, and the text of a line. -/

namespace Sys2Proof.Machine

/-- One line of the assembler (R55). -/
inductive AsmLine where
  /-- `PERMUTE <nr>`. -/
  | permute (nr : Nat)
  /-- `WRLANE <i>, <value>`. -/
  | wrlane (i value : Nat)
  /-- `RDLANE <i>`. -/
  | rdlane (i : Nat)
  /-- `.word <cmd> [, <wdata>]`; a line without wdata has wdata 0. -/
  | word (cmd : CmdWord) (wdata : DataWord)
deriving DecidableEq, Repr

/-- The command of a line; `none` where the assembler refuses a value outside its range (R55). PERMUTE and RDLANE ignore
their write data (R47), which is 0 here (log entry 7). -/
def assemble : AsmLine → Option Command
  | .permute nr => if nr ≤ 255 then some ⟨encode (.permute (BitVec.ofNat 8 nr)), 0⟩ else none
  | .wrlane i value =>
    if i ≤ 24 ∧ value < 2 ^ 64 then some ⟨encode (.wrlane (BitVec.ofNat 5 i)), BitVec.ofNat 64 value⟩ else none
  | .rdlane i => if i ≤ 24 then some ⟨encode (.rdlane (BitVec.ofNat 5 i)), 0⟩ else none
  | .word cmd wdata => some ⟨cmd, wdata⟩

/-- The pseudo-instructions (R56). -/
inductive Pseudo where
  /-- `PERMUTEF`, the full KECCAK-f[25W]. -/
  | permutef
  /-- `LDSTATE v0, ..., v24`, the whole state loaded in index order. -/
  | ldstate (v : Vector DataWord 25)
  /-- `CLRSTATE`, the all-zero state. -/
  | clrstate
  /-- `STSTATE`, the whole state read in index order. -/
  | ststate
deriving DecidableEq, Repr

/-- The expansion of a pseudo-instruction on an instance of width W (R56). -/
def Pseudo.expand (w : Width) : Pseudo → List AsmLine
  | .permutef => [.permute (nrMax w)]
  | .ldstate v => (List.finRange 25).map fun i => .wrlane i.val v[i.val].toNat
  | .clrstate => (List.finRange 25).map fun i => .wrlane i.val 0
  | .ststate => (List.finRange 25).map fun i => .rdlane i.val

/-- The commands of a list of lines; the lines the assembler refuses give none. -/
def assembleAll (lines : List AsmLine) : List Command := lines.filterMap assemble

/-! ### The text of a line (R55): a mnemonic, then operands with commas between them; `;` starts a comment -/

/-- The value of a digit below the base, decimal digits and letters of either case. -/
def digitValue (base : Nat) (c : Char) : Option Nat :=
  let n := c.toNat
  let v :=
    if 48 ≤ n ∧ n ≤ 57 then n - 48
    else if 65 ≤ n ∧ n ≤ 70 then n - 55
    else if 97 ≤ n ∧ n ≤ 102 then n - 87
    else base
  if v < base then some v else none

/-- The number that digits after the value so far make. -/
def digitsValue (base : Nat) : Nat → List Char → Option Nat
  | acc, [] => some acc
  | acc, c :: cs => (digitValue base c).bind fun d => digitsValue base (acc * base + d) cs

/-- A numeral: `0x` and hexadecimal digits, or decimal digits (R8, R55). -/
def numeral : List Char → Option Nat
  | [] => none
  | '0' :: 'x' :: c :: cs => digitsValue 16 0 (c :: cs)
  | cs => digitsValue 10 0 cs

/-- A word in progress, ended. -/
def endWord (word : List Char) : List (List Char) := if word.isEmpty then [] else [word]

/-- The words of a line, a comma being a word of its own, and the comment left out. -/
def lineWords : List Char → List Char → List (List Char)
  | word, [] => endWord word
  | word, c :: cs =>
    if c = ';' then endWord word
    else if c = ' ' ∨ c = '\t' then endWord word ++ lineWords [] cs
    else if c = ',' then endWord word ++ [','] :: lineWords [] cs
    else lineWords (word ++ [c]) cs

/-- Numerals with commas between them. -/
def operands : List (List Char) → Option (List Nat)
  | [] => some []
  | [w] => (numeral w).map fun n => [n]
  | w :: [','] :: rest =>
    if rest.isEmpty then none
    else (numeral w).bind fun n => (operands rest).map fun ns => n :: ns
  | _ => none

/-- The line that a mnemonic and its operands make; `.word` takes any 32-bit word and 64-bit data (R55). -/
def lineOf (mnemonic : List Char) (ns : List Nat) : Option AsmLine :=
  if mnemonic = ['P', 'E', 'R', 'M', 'U', 'T', 'E'] then (match ns with | [nr] => some (.permute nr) | _ => none)
  else if mnemonic = ['W', 'R', 'L', 'A', 'N', 'E'] then (match ns with | [i, v] => some (.wrlane i v) | _ => none)
  else if mnemonic = ['R', 'D', 'L', 'A', 'N', 'E'] then (match ns with | [i] => some (.rdlane i) | _ => none)
  else if mnemonic = ['.', 'w', 'o', 'r', 'd'] then
    match ns with
    | [c] => if c < 2 ^ 32 then some (.word (BitVec.ofNat 32 c) 0) else none
    | [c, d] =>
      if c < 2 ^ 32 ∧ d < 2 ^ 64 then some (.word (BitVec.ofNat 32 c) (BitVec.ofNat 64 d)) else none
    | _ => none
  else none

/-- The pseudo-instruction that a mnemonic and its operands make (R56). -/
def pseudoOf (mnemonic : List Char) (ns : List Nat) : Option Pseudo :=
  if mnemonic = ['P', 'E', 'R', 'M', 'U', 'T', 'E', 'F'] then (if ns.isEmpty then some .permutef else none)
  else if mnemonic = ['C', 'L', 'R', 'S', 'T', 'A', 'T', 'E'] then (if ns.isEmpty then some .clrstate else none)
  else if mnemonic = ['S', 'T', 'S', 'T', 'A', 'T', 'E'] then (if ns.isEmpty then some .ststate else none)
  else if mnemonic = ['L', 'D', 'S', 'T', 'A', 'T', 'E'] then
    if h : ns.length = 25 ∧ ns.all (· < 2 ^ 64) then
      some (.ldstate (Vector.ofFn fun i : Fin 25 => BitVec.ofNat 64 (ns[i.val]'(by omega))))
    else none
  else none

/-- The assembler lines of one line of text, pseudo-instructions expanded; an empty line has none, and a line that is no
command is refused. -/
def parseLine (w : Width) (text : List Char) : Option (List AsmLine) :=
  match lineWords [] text with
  | [] => some []
  | m :: rest =>
    (operands rest).bind fun ns =>
      match lineOf m ns with
      | some line => some [line]
      | none => (pseudoOf m ns).map (Pseudo.expand w)

/-- The commands of one line of text; `none` where the assembler refuses the line or a value in it. -/
def assembleText (w : Width) (text : List Char) : Option (List Command) :=
  (parseLine w text).bind fun lines =>
    if lines.all (fun l => (assemble l).isSome) then some (assembleAll lines) else none

end Sys2Proof.Machine
end

