-- ==== Sys2Proof/Machine/Atomic.lean ====
section
/-! DEFINITION. A whole command as one transaction, acceptance, effect and response taken in one: the atomic form of the
machine that 41_permute.md R74 allows beside the round steps of R73. The step does not use it; a statement says that the
steps come to the same. -/

namespace Sys2Proof.Machine

/-- The response goes to the host. -/
def State.answer (s : State) (code : RspCode) (rdata : DataWord) : State :=
  { s with responses := s.responses ++ [⟨code, rdata⟩] }

/-- A PERMUTE with 1 <= nr <= NR_MAX(W), all rounds at once (R74). -/
def State.permuteAtOnce (s : State) (nr : Nat) : State :=
  { s with
    lanes := keccakP s.width s.noteReadAll.lanes nr
    written := Vector.replicate 25 true
    modelFault := s.noteReadAll.modelFault }

/-- What the decoded command does and answers, in one (R72, R82, R84). -/
def State.transactInstr (s : State) : Instr → State
  | .permute nr =>
    if nrMax s.width < nr.toNat then s.answer .roundCountTooHigh 0
    else if nr = 0 then s.answer .ok 0
    else (s.permuteAtOnce nr.toNat).answer .ok 0
  | .wrlane i =>
    match laneIndex i with
    | none => s.answer .illegalCommand 0
    | some j => (s.writeLane j (trunc s.width.bits s.wdata)).answer .ok 0
  | .rdlane i =>
    match laneIndex i with
    | none => s.answer .illegalCommand 0
    | some j => (s.noteRead j).answer .ok (zext64 (s.readLane j))

/-- The command c, presented, accepted, performed and its response taken (R49, R53). -/
def State.transact (s : State) (c : Command) : State :=
  let s := { s with wdata := c.wdata, unanswered := none }
  match decode c.word with
  | .error _ => s.answer .illegalCommand 0
  | .ok i => s.transactInstr i

end Sys2Proof.Machine
end

