-- ==== Sys2Proof/Safety.lean ====
section
/-! DEFINITION. The terms the claims use: the invariant of the machine, the end of a run, and the host's moves over
several steps. -/

namespace Sys2Proof.Machine

/-- What every response satisfies (30_encoding.md R54, R87): an error carries rdata 0, and rdata fits the lane
width. -/
def Response.Sound (w : Width) (r : Response) : Prop :=
  (r.code ≠ .ok → r.rdata = 0) ∧ r.rdata.toNat < 2 ^ w.bits

/-- What a reachable phase satisfies (10_state.md R18): a running PERMUTE has 0 <= k < e = NR_MAX(W), and it runs only
on lanes that are all written (R80) unless the model fault is recorded. Outside Idle there is a command whose response
the host has not taken (R53, R108). -/
def State.PhaseSound (s : State) : Prop :=
  match s.phase with
  | .idle => True
  | .running k e =>
    k < e ∧ e = nrMax s.width ∧ (s.allWritten = true ∨ s.modelFault = some .unwrittenLane) ∧ s.unanswered ≠ none
  | .responding code rdata => Response.Sound s.width ⟨code, rdata⟩ ∧ s.unanswered ≠ none

/-- The invariant of the machine. -/
def State.Inv (s : State) : Prop :=
  s.PhaseSound ∧ ∀ r ∈ s.responses, Response.Sound s.width r

/-- The end of a run (70_reset_and_hazards.md R115): no command is left, "the response of its last command has been
taken and PHASE = Idle", and there is no model fault, since "no faulted run is final". After a reset that abandons the
last command its response is never taken, so that state is not final (log entry 15). R115 says nothing of a reset after
the last response was taken, nor of a run without a command: that a state is final there too is a DESIGN CHOICE (log
entry 16), unsafe. -/
def State.Final (s : State) : Prop :=
  s.phase = .idle ∧ s.commands = [] ∧ s.unanswered = none ∧ s.modelFault = none

/-- What a run lets one observe (R115): the sequence of responses, and the end state (S, WR). A lane unwritten since
reset is unspecified (R25, R103); that it shows here as its free value, as a read of it does, is a DESIGN CHOICE
(log entry 2), safe. -/
def State.observation (s : State) : List Response × List DataWord × List Bool :=
  (s.responses, (List.finRange 25).map fun j => zext64 (s.readLane j), s.written.toList)

/-- The host's port after n steps. -/
def State.hostTurns : Nat → State → State
  | 0, s => s
  | n + 1, s => s.hostTurn.hostTurns n

/-- What the host drives n steps from now. -/
def State.moveAt (s : State) (n : Nat) : HostMove := (s.hostTurns n).host

/-- The host drives no reset during the next n steps. -/
def State.NoResetFor (s : State) (n : Nat) : Prop := ∀ j < n, s.moveAt j ≠ .resets

/-- The host takes every response and never resets. -/
def State.HostTakes (s : State) : Prop := s.host = .takes ∧ s.script = []

/-- The machine after k steps. -/
def runs (k : Nat) (s : State) : Host.Outcome State Fault Refusal := Host.Core.run Sys2Proof.core k s

end Sys2Proof.Machine
end

