-- ==== Sys2Proof/Certificates/Slice0/Obligations.lean ====
section
/-! DEFINITION. The statements for the provers, from the numbered rules of spec/. Each docstring names the rule it
formalises. No statement rests on the value of a free value or of a lane after reset. -/

open Sys2Proof Sys2Proof.Machine

/-! ### Encoding -/

/-- R43, R44, R48: a word decodes to a command exactly when the command is well formed and the word is its encoding. -/
def Obligations.DecodeAgreesWithEncode : Prop :=
  ∀ (cmd : CmdWord) (i : Instr), decode cmd = .ok i ↔ i.wf = true ∧ encode i = cmd

/-- R49: the illegal words are exactly these four kinds (in numbers: OP is bits 31..24, and so on), and such a word is
answered with RSP_ILLEGAL_COMMAND and rdata 0 and changes nothing else. -/
def Obligations.IllegalWordsAreRefused : Prop :=
  ∀ (cmd : CmdWord) (s : State),
    let op := cmd.toNat / 2 ^ 24
    let illegal :=
      (op ≠ 1 ∧ op ≠ 2 ∧ op ≠ 3) ∨ (op = 1 ∧ cmd.toNat / 2 ^ 8 % 2 ^ 16 ≠ 0) ∨
      ((op = 2 ∨ op = 3) ∧ cmd.toNat / 2 ^ 5 % 2 ^ 19 ≠ 0) ∨
      ((op = 2 ∨ op = 3) ∧ 25 ≤ cmd.toNat % 2 ^ 5)
    (illegal ↔ ∀ i, decode cmd ≠ .ok i) ∧
    (illegal → perform cmd s = .next { s with phase := .responding .illegalCommand 0 })

/-- Words of 95_test_vectors.md V16, one or more per command, and illegal ones. -/
def Obligations.SampleWordsDecodeAsListed : Prop :=
  decode 0x01000000 = .ok (.permute 0) ∧ decode 0x01000012 = .ok (.permute 18) ∧
  decode 0x010000FF = .ok (.permute 255) ∧ decode 0x02000000 = .ok (.wrlane 0) ∧
  decode 0x02000018 = .ok (.wrlane 24) ∧ decode 0x03000007 = .ok (.rdlane 7) ∧
  decode 0x01000100 = .error .permuteReserved ∧ decode 0x02000020 = .error .laneReserved ∧
  decode 0x03000019 = .error .laneIndex ∧ decode 0x00000000 = .error .unknownOpcode

/-- spec/opcode_table.json: a word belongs to a row of the table exactly when it decodes to that row's command. -/
def Obligations.OpcodeRowsSelectCommands : Prop :=
  ∀ r ∈ opcodeTable, ∀ cmd : CmdWord,
    r.accepts cmd = true ↔ ∃ i, decode cmd = .ok i ∧ mnemonicOf i = r.mnemonic

/-- R54: the 2-bit codes of the three responses; the fourth code is no response's. -/
def Obligations.ResponseCodesAreAsListed : Prop :=
  RspCode.bits .ok = 0b00 ∧ RspCode.bits .roundCountTooHigh = 0b01 ∧ RspCode.bits .illegalCommand = 0b10 ∧
  ∀ c : RspCode, c.bits ≠ 0b11

/-- R55: the command of an assembler line, and the values the assembler refuses. -/
def Obligations.AssemblerLinesGiveTheirWords : Prop :=
  (∀ nr, nr ≤ 255 → assemble (.permute nr) = some ⟨BitVec.ofNat 32 (0x01000000 + nr), 0⟩) ∧
  (∀ i v, i ≤ 24 → v < 2 ^ 64 →
    assemble (.wrlane i v) = some ⟨BitVec.ofNat 32 (0x02000000 + i), BitVec.ofNat 64 v⟩) ∧
  (∀ i, i ≤ 24 → assemble (.rdlane i) = some ⟨BitVec.ofNat 32 (0x03000000 + i), 0⟩) ∧
  (∀ nr, 255 < nr → assemble (.permute nr) = none) ∧
  (∀ i v, 24 < i ∨ 2 ^ 64 ≤ v → assemble (.wrlane i v) = none) ∧
  (∀ i, 24 < i → assemble (.rdlane i) = none) ∧
  ∀ cmd d, assemble (.word cmd d) = some ⟨cmd, d⟩

/-! ### The step -/

/-- R53: with PHASE = Idle and no reset, the command the host presents is accepted, and where its word decodes to i the
step is `exec` of i on the state in which the command is gone from the host's list, its write data is sampled, it awaits its
response, and the host's script has moved on. -/
def Obligations.StepRunsTheDecodedCommand : Prop :=
  ∀ (s : State) (c : Command) (rest : List Command) (i : Instr),
    s.host ≠ .resets → s.phase = .idle → s.commands = c :: rest → decode c.word = .ok i →
    step s = exec i
      { s with
        commands := rest
        wdata := c.wdata
        unanswered := some c
        host := s.script.headD s.host
        script := s.script.tail }

/-- R49, R89: an accepted illegal word gives its error response and changes no lane and no WR bit. -/
def Obligations.StepAnswersAnIllegalWord : Prop :=
  ∀ (s : State) (c : Command) (rest : List Command) (e : Illegal),
    s.host ≠ .resets → s.phase = .idle → s.commands = c :: rest → decode c.word = .error e →
    step s = .next
      { s with
        commands := rest
        wdata := c.wdata
        unanswered := some c
        host := s.script.headD s.host
        script := s.script.tail
        phase := .responding .illegalCommand 0 }

/-- R101: with no command and no reset, the engine waits in Idle and everything but the host's own script survives. -/
def Obligations.IdleEngineWaits : Prop :=
  ∀ s : State, s.host ≠ .resets → s.phase = .idle → s.commands = [] →
    step s = .next { s with host := s.script.headD s.host, script := s.script.tail }

/-- R73: one round step. The last one, k + 1 = e, ends with RSP_OK and (R17) sets every WR bit. -/
def Obligations.RoundStepAppliesOneRound : Prop :=
  ∀ (s : State) (k e : Nat) (hk : k < 24), s.host ≠ .resets → s.phase = .running k e →
    step s = .next
      { s with
        lanes := Machine.round s.lanes (RC[k].setWidth s.width.bits)
        phase := if k + 1 = e then .responding .ok 0 else .running (k + 1) e
        written := if k + 1 = e then Vector.replicate 25 true else s.written
        host := s.script.headD s.host
        script := s.script.tail }

/-- R53: a response the host takes joins the host's responses, and PHASE returns to Idle. -/
def Obligations.TakenResponseReturnsToIdle : Prop :=
  ∀ (s : State) (code : RspCode) (rdata : DataWord),
    s.host = .takes → s.phase = .responding code rdata →
    step s = .next
      { s with
        phase := .idle
        responses := s.responses ++ [⟨code, rdata⟩]
        unanswered := none
        host := s.script.headD s.host
        script := s.script.tail }

/-- R107, U18: a host that never takes a response holds the engine, and its next command, for ever. -/
def Obligations.UntakenResponseHoldsTheEngine : Prop :=
  ∀ (s : State) (code : RspCode) (rdata : DataWord) (n : Nat),
    s.host = .waits → s.script = [] → s.phase = .responding code rdata → runs n s = .next s

/-- R52, R53, R107: while PHASE is Running or Responding the engine is not ready, and no step takes a command; while it
is Running the host gets no response either, so no intermediate round can be observed (R37). -/
def Obligations.BusyEngineAcceptsNothing : Prop :=
  ∀ s t : State, s.phase ≠ .idle → step s = .next t →
    s.cmdReady = false ∧ t.commands = s.commands ∧ t.wdata = s.wdata ∧
    (s.response = none → t.responses = s.responses)

/-- R102, R103: a reset abandons the command in progress without a response. PHASE is Idle, every WR bit is false, the
host's commands and the responses it has taken stand, and a read of any lane gives the free value; and where a command
awaited its response, the state is not the end of a run (R115). The free value is the model's form of "unspecified" (log
entry 2); that the model fault stands is its reading (log entry 13). -/
def Obligations.ResetAbandonsTheCommand : Prop :=
  ∀ s : State, s.host = .resets → ∃ t, step s = .next t ∧
    t.phase = .idle ∧ t.cmdReady = true ∧ t.response = none ∧ t.width = s.width ∧
    (∀ j : Fin 25, t.written[j.val] = false) ∧
    (∀ j : Fin 25, t.readLane j = trunc t.width.bits (Config.unwrittenLane t.resets j.val)) ∧
    t.resets = s.resets + 1 ∧ t.commands = s.commands ∧ t.responses = s.responses ∧ t.modelFault = s.modelFault ∧
    t.resetKind = s.resetKind ∧ t.unanswered = s.unanswered ∧ (s.unanswered ≠ none → ¬ t.Final)

/-- R25, R102: the state after reset, at every width and RESET_KIND. -/
def Obligations.StateAfterReset : Prop :=
  ∀ (w : Width) (kind : ResetKind),
    (State.resetAt w kind).width = w ∧ (State.resetAt w kind).resetKind = kind ∧
    (State.resetAt w kind).phase = .idle ∧
    (State.resetAt w kind).cmdReady = true ∧ (State.resetAt w kind).response = none ∧
    ∀ j : Fin 25, (State.resetAt w kind).written[j.val] = false

/-- R81, R107: every state has a next state; no command and no lane value can stop the engine. For a read of an unwritten
lane that is the model's choice (log entry 3): there the model of R80, R85 and R87 stops, and this one records the model
fault and goes on. -/
def Obligations.EveryStateSteps : Prop := ∀ s : State, ∃ t, step s = .next t

/-! ### WRLANE and RDLANE -/

/-- R82, R83: WRLANE puts the low W bits of the write data into lane i, sets WR[i] and responds RSP_OK. -/
def Obligations.WrlaneWritesTheTruncatedData : Prop :=
  ∀ (s : State) (i : BitVec 5) (h : i.toNat ≤ 24),
    exec (.wrlane i) s = .next
      { s with
        lanes := s.lanes.set i.toNat (s.wdata.setWidth s.width.bits)
        written := s.written.set i.toNat true
        phase := .responding .ok 0 }

/-- R84: RDLANE of a written lane responds RSP_OK with the lane, zero-extended, and changes nothing else. -/
def Obligations.RdlaneReturnsTheLane : Prop :=
  ∀ (s : State) (i : BitVec 5) (h : i.toNat ≤ 24), s.written[i.toNat] = true →
    exec (.rdlane i) s = .next { s with phase := .responding .ok (s.lanes[i.toNat].setWidth 64) }

/-- R85, R90: RDLANE of an unwritten lane records the model fault UnwrittenLane. The chip answers with whatever the lane
holds; here that is the free value (log entries 2 and 3: the model goes on where the rule's model stops). -/
def Obligations.RdlaneOfAnUnwrittenLane : Prop :=
  ∀ (s : State) (i : BitVec 5) (h : i.toNat ≤ 24), s.written[i.toNat] = false →
    exec (.rdlane i) s = .next
      { s with
        modelFault := some .unwrittenLane
        phase := .responding .ok
          (((Config.unwrittenLane s.resets i.toNat).setWidth s.width.bits).setWidth 64) }

/-- R27, R46: an index of 25..31 names no location, and the command is refused with RSP_ILLEGAL_COMMAND. -/
def Obligations.LaneIndexOutOfRangeIsRefused : Prop :=
  ∀ (s : State) (i : BitVec 5), 25 ≤ i.toNat →
    exec (.wrlane i) s = .next { s with phase := .responding .illegalCommand 0 } ∧
    exec (.rdlane i) s = .next { s with phase := .responding .illegalCommand 0 }

/-- R86, the frame of the lane access commands: only lane i and WR[i] may change, and only under WRLANE; RDLANE may
record the model fault; nothing else changes but PHASE. -/
def Obligations.LaneAccessTouchesOneLane : Prop :=
  ∀ (s t : State) (i : BitVec 5),
    (exec (.wrlane i) s = .next t →
      (∀ j : Fin 25, j.val ≠ i.toNat → t.lane64 j = s.lane64 j ∧ t.written[j.val] = s.written[j.val]) ∧
      t.modelFault = s.modelFault ∧ t.width = s.width ∧ t.resetKind = s.resetKind ∧ t.wdata = s.wdata ∧
      t.unanswered = s.unanswered ∧ t.commands = s.commands ∧ t.responses = s.responses ∧
      t.host = s.host ∧ t.script = s.script ∧ t.resets = s.resets) ∧
    (exec (.rdlane i) s = .next t →
      (∀ j : Fin 25, t.lane64 j = s.lane64 j ∧ t.written[j.val] = s.written[j.val]) ∧
      (t.modelFault ≠ s.modelFault → ∃ h : i.toNat < 25, s.written[i.toNat] = false) ∧
      t.width = s.width ∧ t.resetKind = s.resetKind ∧ t.wdata = s.wdata ∧ t.unanswered = s.unanswered ∧
      t.commands = s.commands ∧ t.responses = s.responses ∧
      t.host = s.host ∧ t.script = s.script ∧ t.resets = s.resets)

/-- R37: WRLANE and RDLANE are idempotent: done twice, they leave what they left the first time. -/
def Obligations.LaneAccessIsIdempotent : Prop :=
  ∀ (s t : State) (i : BitVec 5),
    (exec (.wrlane i) s = .next t → exec (.wrlane i) t = .next t) ∧
    (exec (.rdlane i) s = .next t → exec (.rdlane i) t = .next t)

/-- R47: WRLANE uses wdata[W-1:0], whatever it is, and ignores the bits from W on; PERMUTE, RDLANE and illegal words
ignore all of it: with other ignored bits the next state differs in the sampled data alone. -/
def Obligations.WriteDataIsIgnored : Prop :=
  ∀ (s t : State) (cmd : CmdWord) (d : DataWord),
    ((∃ i, decode cmd = .ok (.wrlane i)) → d.setWidth s.width.bits = s.wdata.setWidth s.width.bits) →
    perform cmd s = .next t →
    perform cmd { s with wdata := d } = .next { t with wdata := d } ∧
    ∀ i (h : i.toNat < 25), decode cmd = .ok (.wrlane i) →
      t.lane64 ⟨i.toNat, h⟩ = (s.wdata.setWidth s.width.bits).setWidth 64

/-- R39, R108: an RDLANE after a WRLANE of the same lane returns the written value, truncated to W bits. -/
def Obligations.ReadAfterWriteReturnsTheData : Prop :=
  ∀ (s : State) (i : BitVec 5) (v d : DataWord) (rest : List Command), i.toNat ≤ 24 →
    s.phase = .idle → s.HostTakes →
    s.commands = ⟨encode (.wrlane i), v⟩ :: ⟨encode (.rdlane i), d⟩ :: rest →
    ∃ t, runs 3 s = .next t ∧ t.commands = rest ∧ t.responses = s.responses ++ [⟨.ok, 0⟩] ∧
      t.phase = .responding .ok ((v.setWidth s.width.bits).setWidth 64)

/-! ### PERMUTE -/

/-- R75: PERMUTE 0 responds RSP_OK and leaves every lane, every WR bit and the model fault as they are. -/
def Obligations.PermuteZeroLeavesTheState : Prop :=
  ∀ s : State, exec (.permute 0) s = .next { s with phase := .responding .ok 0 }

/-- R76, R88: a round count above NR_MAX(W) is refused with RSP_ROUND_COUNT_TOO_HIGH and changes nothing else. -/
def Obligations.RoundCountTooHighIsRefused : Prop :=
  ∀ (s : State) (nr : BitVec 8), nrMax s.width < nr.toNat →
    exec (.permute nr) s = .next { s with phase := .responding .roundCountTooHigh 0 }

/-- R72: a legal PERMUTE of at least one round on written lanes starts the rounds at RC[NR_MAX(W) - nr]. -/
def Obligations.PermuteStartsTheRounds : Prop :=
  ∀ (s : State) (nr : BitVec 8), 1 ≤ nr.toNat → nr.toNat ≤ nrMax s.width →
    (∀ j : Fin 25, s.written[j.val] = true) →
    exec (.permute nr) s = .next { s with phase := .running (nrMax s.width - nr.toNat) (nrMax s.width) }

/-- R80, R90: where a lane is unwritten, the same PERMUTE records the model fault UnwrittenLane. The chip computes on
whatever the lanes hold; here the unwritten ones hold the free value (log entries 2 and 3). -/
def Obligations.PermuteOnUnwrittenLanes : Prop :=
  ∀ (s : State) (nr : BitVec 8), 1 ≤ nr.toNat → nr.toNat ≤ nrMax s.width →
    (∃ j : Fin 25, s.written[j.val] = false) →
    exec (.permute nr) s = .next
      { s with
        lanes := Vector.ofFn fun j : Fin 25 =>
          if s.written[j.val] then s.lanes[j.val]
          else (Config.unwrittenLane s.resets j.val).setWidth s.width.bits
        modelFault := some .unwrittenLane
        phase := .running (nrMax s.width - nr.toNat) (nrMax s.width) }

/-- R72, R75, R76, the frame of PERMUTE at acceptance (the rounds follow as round steps). Where the PERMUTE is refused,
has no round, or finds every lane written, nothing changes but PHASE. Where it finds an unwritten lane, the rule's model
stops; that this one goes on, with the model fault recorded, the free value in the unwritten lanes, and the written lanes
and WR as they were, is the model's choice (log entries 2 and 3). -/
def Obligations.PermuteAcceptanceFrame : Prop :=
  ∀ (s t : State) (nr : BitVec 8), exec (.permute nr) s = .next t →
    (∀ j : Fin 25, s.written[j.val] = true → t.lane64 j = s.lane64 j) ∧
    (s.allWritten = true ∨ nr = 0 ∨ nrMax s.width < nr.toNat →
      t.modelFault = s.modelFault ∧ ∀ j : Fin 25, t.lane64 j = s.lane64 j) ∧
    t.written = s.written ∧ t.width = s.width ∧ t.resetKind = s.resetKind ∧ t.wdata = s.wdata ∧
    t.unanswered = s.unanswered ∧ t.commands = s.commands ∧
    t.responses = s.responses ∧ t.host = s.host ∧ t.script = s.script ∧ t.resets = s.resets

/-- R87, R91, R93: whatever the word, an error response means that nothing else has changed, no lane, no WR bit and no
model fault; and an illegal word is IllegalCommand before any round count is looked at. -/
def Obligations.ErrorResponsesChangeNothing : Prop :=
  ∀ (s t : State) (cmd : CmdWord), perform cmd s = .next t →
    (t.response = some ⟨.illegalCommand, 0⟩ ∨ t.response = some ⟨.roundCountTooHigh, 0⟩ →
      t = { s with phase := t.phase }) ∧
    ((∃ e, decode cmd = .error e) → t.phase = .responding .illegalCommand 0) ∧
    (∀ nr, decode cmd = .ok (.permute nr) → nrMax s.width < nr.toNat → t.phase = .responding .roundCountTooHigh 0)

/-- R73, R74: an accepted PERMUTE takes exactly nr round steps, and then its response RSP_OK is presented with the lanes
KeccakP(W, S, nr). The host may take or leave responses as it likes meanwhile, but does not reset. -/
def Obligations.PermuteComputesKeccakP : Prop :=
  ∀ (s : State) (c : Command) (rest : List Command) (nr : BitVec 8),
    s.phase = .idle → s.commands = c :: rest → decode c.word = .ok (.permute nr) →
    nr.toNat ≤ nrMax s.width → s.allWritten = true → s.NoResetFor (nr.toNat + 1) →
    runs (nr.toNat + 1) s = .next
      { s with
        lanes := keccakP s.width s.lanes nr.toNat
        phase := .responding .ok 0
        commands := rest
        wdata := c.wdata
        unanswered := some c
        host := s.moveAt (nr.toNat + 1)
        script := s.script.drop (nr.toNat + 1) }

/-- R77: two PERMUTEs in a row apply their windows one after the other. -/
def Obligations.PermutesRunOneAfterTheOther : Prop :=
  ∀ (s : State) (a b : BitVec 8) (d d' : DataWord) (rest : List Command),
    s.phase = .idle → s.HostTakes → s.allWritten = true →
    a.toNat ≤ nrMax s.width → b.toNat ≤ nrMax s.width →
    s.commands = ⟨encode (.permute a), d⟩ :: ⟨encode (.permute b), d'⟩ :: rest →
    runs (a.toNat + b.toNat + 3) s = .next
      { s with
        lanes := keccakP s.width (keccakP s.width s.lanes a.toNat) b.toNat
        phase := .responding .ok 0
        commands := rest
        wdata := d'
        unanswered := some ⟨encode (.permute b), d'⟩
        responses := s.responses ++ [⟨.ok, 0⟩] }

/-- R39: an RDLANE after a PERMUTE returns the permuted lane. -/
def Obligations.ReadAfterPermuteReturnsThePermutedLane : Prop :=
  ∀ (s : State) (nr : BitVec 8) (i : BitVec 5) (h : i.toNat ≤ 24) (d d' : DataWord) (rest : List Command),
    s.phase = .idle → s.HostTakes → s.allWritten = true → nr.toNat ≤ nrMax s.width →
    s.commands = ⟨encode (.permute nr), d⟩ :: ⟨encode (.rdlane i), d'⟩ :: rest →
    ∃ t, runs (nr.toNat + 3) s = .next t ∧ t.commands = rest ∧
      t.phase = .responding .ok ((keccakP s.width s.lanes nr.toNat)[i.toNat].setWidth 64)

/-- R78: the partial-round law, the extra round first; and its general form, m rounds split off at the front. -/
def Obligations.PartialRoundLaw : Prop :=
  ∀ (w : Width) (A : Lanes w.bits),
    (∀ n (h : n < nrMax w) (h24 : nrMax w - n - 1 < 24),
      keccakP w A (n + 1) = keccakP w (Machine.round A (RC[nrMax w - n - 1].setWidth w.bits)) n) ∧
    (∀ nr m, m ≤ nr → nr ≤ nrMax w →
      keccakP w A nr = keccakP w (roundsFrom (nrMax w - nr) m A) (nr - m))

/-- R69: the window of a round count: refused above NR_MAX(W), else the nr entries just below index NR_MAX(W). -/
def Obligations.WindowIsTheTrailingSlice : Prop :=
  nrMax .w8 = 18 ∧ nrMax .w16 = 20 ∧ nrMax .w32 = 22 ∧ nrMax .w64 = 24 ∧
  ∀ (w : Width) (nr : BitVec 8),
    (nrMax w < nr.toNat → windowMap w nr = none) ∧
    (nr.toNat ≤ nrMax w → windowMap w nr = some ⟨nrMax w - nr.toNat, nrMax w⟩)

/-! ### The round -/

/-- R59, R60: Theta at every lane. -/
def Obligations.ThetaAtEveryLane : Prop :=
  ∀ (w : Nat) (A : Lanes w) (x y : Fin 5),
    let C := fun c : Fin 5 => A[c.val] ^^^ A[c.val + 5] ^^^ A[c.val + 10] ^^^ A[c.val + 15] ^^^ A[c.val + 20]
    at_ (theta A) x y = at_ A x y ^^^ (C (x + 4) ^^^ rotl (C (x + 1)) 1)

/-- R60 (corner case): one non-zero lane at (x0, y0) reaches, by Theta, itself, its right-hand column unrotated and its
left-hand column rotated by one. -/
def Obligations.ThetaSpreadsOneLane : Prop :=
  ∀ (w : Nat) (v : BitVec w) (x0 y0 x y : Fin 5),
    at_ (theta (grid fun a b => if a = x0 ∧ b = y0 then v else 0)) x y =
      (if x = x0 ∧ y = y0 then v else 0) ^^^
        (if x = x0 + 1 then v else if x = x0 + 4 then rotl v 1 else 0)

/-- R61, R33: RhoPi moves the lane at (x, y) to (y, 2x + 3y mod 5), rotated by r[x,y]. -/
def Obligations.RhoPiMovesEveryLane : Prop :=
  ∀ (w : Nat) (A : Lanes w) (x y : Fin 5),
    at_ (rhoPi A) y (2 * x + 3 * y) = rotl (at_ A x y) rGrid[5 * y.val + x.val]

/-- R62: the chained in-place traversal gives the same lanes as the closed form. -/
def Obligations.RhoPiChainEqualsClosedForm : Prop :=
  ∀ (w : Nat) (S : Lanes w), rhoPiInPlace S = rhoPi S

/-- R63: Chi at every lane, every operand from the row before the step. -/
def Obligations.ChiAtEveryLane : Prop :=
  ∀ (w : Nat) (A : Lanes w) (x y : Fin 5),
    at_ (chi A) x y = at_ A x y ^^^ (~~~ at_ A (x + 1) y &&& at_ A (x + 2) y)

/-- R64: Iota changes lane 0 only, and is its own inverse. -/
def Obligations.IotaChangesLaneZeroOnly : Prop :=
  ∀ (w : Nat) (A : Lanes w) (c : BitVec w),
    (iota A c)[0] = A[0] ^^^ c ∧ (∀ i (h : i < 25), i ≠ 0 → (iota A c)[i] = A[i]) ∧ iota (iota A c) c = A

/-- R58 (corner case) and V28: one round of the all-zero state leaves the constant in lane 0 and zero elsewhere; one
round of the all-ones state leaves the inverted constant in lane 0 and all ones elsewhere. -/
def Obligations.RoundOfConstantStates : Prop :=
  ∀ (w : Nat) (c : BitVec w),
    Machine.round (Vector.replicate 25 0) c = (Vector.replicate 25 0).set 0 c ∧
    Machine.round (Vector.replicate 25 (BitVec.allOnes w)) c = (Vector.replicate 25 (BitVec.allOnes w)).set 0 (~~~ c)

/-- R68: Chi is injective at every lane width. -/
def Obligations.ChiIsInjective : Prop :=
  ∀ (w : Nat) (A B : Lanes w), chi A = chi B → A = B

/-- R61 (corner case): RhoPi is a bijection on states. -/
def Obligations.RhoPiIsABijection : Prop :=
  ∀ w : Nat, Function.Bijective (fun A : Lanes w => rhoPi A)

/-- R68: the round is invertible: at each of the four widths, for a fixed constant, every state is the round of exactly
one state. -/
def Obligations.RoundIsInvertible : Prop :=
  ∀ (w : Width) (c : BitVec w.bits), Function.Bijective (fun A : Lanes w.bits => Machine.round A c)

/-- R9: bit j of a lane stands at bit (j + n) mod W after a rotation by n, and a rotation by n is one by n mod W. -/
def Obligations.RotationIsCircular : Prop :=
  ∀ (w : Nat) (v : BitVec w) (n : Nat),
    (∀ j, j < w → (rotl v n).getLsbD ((j + n) % w) = v.getLsbD j) ∧ rotl v n = rotl v (n % w)

/-! ### The constant tables -/

/-- R32: PI is a permutation of 1..24, ends at the chain's start lane 1, and follows the mapping
(x, y) to (y, 2x + 3y mod 5). -/
def Obligations.ChainTableFollowsTheMapping : Prop :=
  (∀ j : Fin 25, j ≠ 0 → PI.toList.count j = 1) ∧ PI.toList.count 0 = 0 ∧ PI[23] = 1 ∧ SRC 0 = 1 ∧
  (∀ i : Fin 24, i.val ≠ 0 → SRC i = PI[i.val - 1]) ∧
  ∀ i : Fin 24, (PI[i.val]).val = 5 * ((2 * ((SRC i).val % 5) + 3 * ((SRC i).val / 5)) % 5) + (SRC i).val / 5

/-- R33: the offset grid and the destination grid are the chain table indexed by source position. -/
def Obligations.GridsFollowTheChainTable : Prop :=
  rGrid[0] = 0 ∧ destGrid[0] = 0 ∧
  ∀ i : Fin 24, rGrid[(SRC i).val] = RHO[i.val] ∧ destGrid[(SRC i).val] = PI[i.val]

/-- R28, R30: every round constant has bits only at positions 0, 1, 3, 7, 15, 31 and 63, and every rotation offset is
its triangular number mod 64. -/
def Obligations.TablesMeetTheirSanityLaws : Prop :=
  (∀ k : Fin 24, RC[k.val] &&& ~~~ 0x800000008000808B = 0) ∧
  ∀ i : Fin 24, RHO[i.val] = ((i.val + 1) * (i.val + 2) / 2) % 64

/-! ### The whole machine -/

/-- R18, R54, R80: every step keeps the invariant, from every state that meets it. -/
def Obligations.StepKeepsTheInvariant : Prop :=
  ∀ s t : State, s.Inv → step s = .next t → t.Inv

/-- The invariant holds right after reset, at every width and RESET_KIND. -/
def Obligations.ResetMeetsTheInvariant : Prop :=
  ∀ (w : Width) (kind : ResetKind), (State.resetAt w kind).Inv

/-- R5, R16, R22, R102: no step changes the parameters of the instance, the lane width and RESET_KIND. -/
def Obligations.NoStepChangesTheParameters : Prop :=
  ∀ s t : State, step s = .next t → t.width = s.width ∧ t.resetKind = s.resetKind

/-- R7, U8: RESET_KIND is not observable at the transaction level: with another one, and the level on rst following it,
any run gives the same state but for RESET_KIND itself, hence the same observation. -/
def Obligations.ResetKindIsNotObservable : Prop :=
  ∀ (s t : State) (kind : ResetKind) (n : Nat), runs n s = .next t →
    runs n { s with resetKind := kind } = .next { t with resetKind := kind } ∧
    State.observation { t with resetKind := kind } = t.observation

/-- R90: no step, a reset included, clears a recorded model fault; so no later state is final. -/
def Obligations.ModelFaultIsNeverCleared : Prop :=
  ∀ (s t : State) (n : Nat) (f : Fault), s.modelFault = some f → runs n s = .next t →
    t.modelFault ≠ none ∧ ¬ t.Final

/-- R15, R101: a lane changes in a step only by a reset, which leaves it unspecified (R102, R103), when a WRLANE of that
lane is accepted, in a round step, or when a PERMUTE of at least one round reads it unwritten (that the PERMUTE then goes
on, with the free value in that lane, is the model's choice: log entries 2 and 3). -/
def Obligations.LanesChangeOnlyByCommands : Prop :=
  ∀ (s t : State) (j : Fin 25), step s = .next t → t.lane64 j ≠ s.lane64 j →
    s.host = .resets ∨
      (∃ k e, s.phase = .running k e) ∨
      ∃ c rest, s.phase = .idle ∧ s.commands = c :: rest ∧
        ((∃ i, decode c.word = .ok (.wrlane i) ∧ i.toNat = j.val) ∨
          ∃ nr, decode c.word = .ok (.permute nr) ∧ 1 ≤ nr.toNat ∧ nr.toNat ≤ nrMax s.width ∧
            s.written[j.val] = false)

/-- R39, R53, R74, R113: where the host takes its responses, every list of commands, legal or not, is performed to the
end. Within 26 steps a command the machine is where the commands bring it one after the other, each as one transaction
(`State.transact`: its effect, and its own response appended to those taken), so there is one response for each command,
in the commands' order. For a command that reads an unwritten lane this rests on the model's choice to record the model
fault and go on with the free value (log entries 2 and 3). -/
def Obligations.EveryCommandGetsOneResponse : Prop :=
  ∀ s : State, s.phase = .idle → s.HostTakes →
    ∃ n t, n ≤ 26 * s.commands.length ∧ runs n s = .next t ∧
      t = s.commands.foldl State.transact { s with commands := [] } ∧
      t.phase = .idle ∧ t.commands = [] ∧
      (s.commands ≠ [] → t.unanswered = none) ∧
      ∃ rs, t.responses = s.responses ++ rs ∧ rs.length = s.commands.length

/-- R56, R105: LDSTATE v0, ..., v24 loads the whole state: 25 commands, 25 responses RSP_OK, and every lane holds its
value truncated to W bits with its WR bit set. -/
def Obligations.LdstateLoadsTheWholeState : Prop :=
  ∀ (s : State) (v : Vector DataWord 25) (rest : List Command),
    s.phase = .idle → s.HostTakes →
    s.commands = assembleAll (Pseudo.expand s.width (.ldstate v)) ++ rest →
    runs 50 s = .next
      { s with
        lanes := v.map (fun d => d.setWidth s.width.bits)
        written := Vector.replicate 25 true
        wdata := v[24]
        unanswered := none
        commands := rest
        responses := s.responses ++ List.replicate 25 ⟨.ok, 0⟩ }

/-- R56: STSTATE reads the whole state: 25 responses RSP_OK carry the lanes in index order, zero-extended, and nothing
of the engine's state changes but the sampled write data (0 in these lines, log entry 7). -/
def Obligations.StstateReadsTheWholeState : Prop :=
  ∀ (s : State) (rest : List Command),
    s.phase = .idle → s.HostTakes → s.allWritten = true →
    s.commands = assembleAll (Pseudo.expand s.width .ststate) ++ rest →
    runs 50 s = .next
      { s with
        wdata := 0
        unanswered := none
        commands := rest
        responses := s.responses ++ s.lanes.toList.map fun v => ⟨.ok, v.setWidth 64⟩ }

/-- R79: PERMUTEF is PERMUTE NR_MAX(W), and its rounds use RC[0], RC[1], ... up to RC[NR_MAX(W) - 1] in order. -/
def Obligations.PermutefIsTheFullPermutation : Prop :=
  ∀ (w : Width) (A : Lanes w.bits),
    (∃ c : Command, assembleAll (Pseudo.expand w .permutef) = [c] ∧
      decode c.word = .ok (.permute (BitVec.ofNat 8 (nrMax w)))) ∧
    keccakP w A (nrMax w) = roundsFrom 0 (nrMax w) A
end

