-- ==== Sys2Proof/Laws/Decode.lean ====
section
/-! SUPPORT. The opcode field of each command's word, and what the decoder asks of a word of each form. -/

namespace Sys2Proof

@[simp] theorem opField_encode (i : Instr) : opField (encode i) = opcodeOf i := by
  cases i with
  | permute nr => revert nr; decide
  | wrlane i => revert i; decide
  | rdlane i => revert i; decide

/-- The words the PERMUTE form refuses are those with a reserved bit set (R49). -/
theorem decode_of_permute_opcode {cmd : CmdWord} (h : opField cmd = 0x01) :
    decode cmd = if permuteReservedField cmd = 0 then .ok (.permute (nrField cmd)) else .error .permuteReserved := by
  simp [decode, h]

/-- A word with the WRLANE opcode goes through the LANE form (R48). -/
theorem decode_of_wrlane_opcode {cmd : CmdWord} (h : opField cmd = 0x02) :
    decode cmd = decodeLaneForm .wrlane cmd := by
  simp [decode, h]

/-- A word with the RDLANE opcode goes through the LANE form (R48). -/
theorem decode_of_rdlane_opcode {cmd : CmdWord} (h : opField cmd = 0x03) :
    decode cmd = decodeLaneForm .rdlane cmd := by
  simp [decode, h]

end Sys2Proof
end

