-- ==== Sys2Proof/Laws/Operands.lean ====
section
/-! SUPPORT. The small laws of lane values, lane coordinates and rotation (00_scope.md R9 to R11). -/

namespace Sys2Proof.Machine

/-- A position is the index it stands at (R11). -/
theorem indexOf_column_row (i : Fin 25) : indexOf (column i) (row i) = i := by
  ext; simp only [indexOf, column, row]; omega

@[simp] theorem column_indexOf (x y : Fin 5) : column (indexOf x y) = x := by
  ext; simp only [column, indexOf]; omega

@[simp] theorem row_indexOf (x y : Fin 5) : row (indexOf x y) = y := by
  ext; simp only [row, indexOf]; omega

variable {w : Nat}

/-- The lane at a position, by its index. -/
theorem at_eq_getElem_indexOf (A : Lanes w) (x y : Fin 5) : at_ A x y = A[(indexOf x y).val] := rfl

/-- The lane of an index, by its position. -/
theorem getElem_eq_at (A : Lanes w) (i : Fin 25) : A[i.val] = at_ A (column i) (row i) := by
  simp only [at_eq_getElem_indexOf, indexOf_column_row]

/-- The lanes built from a function of the position read back as that function. -/
@[simp] theorem at_grid (f : Fin 5 → Fin 5 → BitVec w) (x y : Fin 5) : at_ (grid f) x y = f x y := by
  rw [at_eq_getElem_indexOf]; simp [grid]

/-- Two states with the same lane at every position are the same state. -/
theorem lanes_ext {A B : Lanes w} (h : ∀ x y, at_ A x y = at_ B x y) : A = B := by
  apply Vector.ext
  intro i hi
  have := h (column ⟨i, hi⟩) (row ⟨i, hi⟩)
  rwa [← getElem_eq_at A ⟨i, hi⟩, ← getElem_eq_at B ⟨i, hi⟩] at this

@[simp] theorem rotl_zero_count (v : BitVec w) : rotl v 0 = v := by simp [rotl]

@[simp] theorem rotl_zero_value (n : Nat) : rotl (0#w) n = 0#w := by simp [rotl]

/-- The rule's formula is the library's rotation. -/
theorem rotl_eq_rotateLeft (v : BitVec w) (n : Nat) : rotl v n = v.rotateLeft n := by
  unfold rotl BitVec.rotateLeft BitVec.rotateLeftAux
  split
  · rename_i h
    simp [h, BitVec.ushiftRight_eq_zero]
  · rfl

/-- The lane index an operand names, where it names one. -/
theorem laneIndex_of_lt {i : BitVec 5} (h : i.toNat < 25) : laneIndex i = some ⟨i.toNat, h⟩ := by
  simp [laneIndex, h]

/-- An operand of 25..31 names no lane. -/
theorem laneIndex_of_ge {i : BitVec 5} (h : 25 ≤ i.toNat) : laneIndex i = none := by
  simp [laneIndex, Nat.not_lt.mpr h]

/-- The index a lane operand gives is the operand's number. -/
theorem laneIndex_eq_some {i : BitVec 5} {j : Fin 25} : laneIndex i = some j ↔ i.toNat = j.val := by
  unfold laneIndex
  split
  · simp [Fin.ext_iff]
  · simp; omega

end Sys2Proof.Machine
end

