-- ==== Sys2Proof/Laws/State.lean ====
section
/-! SUPPORT. What each operation over the state writes and what it leaves: one lemma per field and operation, true by
`rfl`, so that no proof unfolds a record update. -/

namespace Sys2Proof.Machine

variable (s : State)

@[simp] theorem State.respond_width (code : RspCode) (rdata : DataWord) :
    (s.respond code rdata).width =
      s.width := rfl
@[simp] theorem State.respond_resetKind (code : RspCode) (rdata : DataWord) :
    (s.respond code rdata).resetKind =
      s.resetKind := rfl
@[simp] theorem State.respond_lanes (code : RspCode) (rdata : DataWord) :
    (s.respond code rdata).lanes =
      s.lanes := rfl
@[simp] theorem State.respond_written (code : RspCode) (rdata : DataWord) :
    (s.respond code rdata).written =
      s.written := rfl
@[simp] theorem State.respond_phase (code : RspCode) (rdata : DataWord) :
    (s.respond code rdata).phase =
      .responding code rdata := rfl
@[simp] theorem State.respond_wdata (code : RspCode) (rdata : DataWord) :
    (s.respond code rdata).wdata =
      s.wdata := rfl
@[simp] theorem State.respond_unanswered (code : RspCode) (rdata : DataWord) :
    (s.respond code rdata).unanswered =
      s.unanswered := rfl
@[simp] theorem State.respond_commands (code : RspCode) (rdata : DataWord) :
    (s.respond code rdata).commands =
      s.commands := rfl
@[simp] theorem State.respond_responses (code : RspCode) (rdata : DataWord) :
    (s.respond code rdata).responses =
      s.responses := rfl
@[simp] theorem State.respond_host (code : RspCode) (rdata : DataWord) : (s.respond code rdata).host = s.host := rfl
@[simp] theorem State.respond_script (code : RspCode) (rdata : DataWord) :
    (s.respond code rdata).script =
      s.script := rfl
@[simp] theorem State.respond_modelFault (code : RspCode) (rdata : DataWord) :
    (s.respond code rdata).modelFault =
      s.modelFault := rfl
@[simp] theorem State.respond_resets (code : RspCode) (rdata : DataWord) :
    (s.respond code rdata).resets =
      s.resets := rfl

@[simp] theorem State.raiseRoundCountTooHigh_width : (s.raiseRoundCountTooHigh).width = s.width := rfl
@[simp] theorem State.raiseRoundCountTooHigh_resetKind : (s.raiseRoundCountTooHigh).resetKind = s.resetKind := rfl
@[simp] theorem State.raiseRoundCountTooHigh_lanes : (s.raiseRoundCountTooHigh).lanes = s.lanes := rfl
@[simp] theorem State.raiseRoundCountTooHigh_written : (s.raiseRoundCountTooHigh).written = s.written := rfl
@[simp] theorem State.raiseRoundCountTooHigh_phase :
    (s.raiseRoundCountTooHigh).phase =
      .responding .roundCountTooHigh 0 := rfl
@[simp] theorem State.raiseRoundCountTooHigh_wdata : (s.raiseRoundCountTooHigh).wdata = s.wdata := rfl
@[simp] theorem State.raiseRoundCountTooHigh_unanswered : (s.raiseRoundCountTooHigh).unanswered = s.unanswered := rfl
@[simp] theorem State.raiseRoundCountTooHigh_commands : (s.raiseRoundCountTooHigh).commands = s.commands := rfl
@[simp] theorem State.raiseRoundCountTooHigh_responses : (s.raiseRoundCountTooHigh).responses = s.responses := rfl
@[simp] theorem State.raiseRoundCountTooHigh_host : (s.raiseRoundCountTooHigh).host = s.host := rfl
@[simp] theorem State.raiseRoundCountTooHigh_script : (s.raiseRoundCountTooHigh).script = s.script := rfl
@[simp] theorem State.raiseRoundCountTooHigh_modelFault : (s.raiseRoundCountTooHigh).modelFault = s.modelFault := rfl
@[simp] theorem State.raiseRoundCountTooHigh_resets : (s.raiseRoundCountTooHigh).resets = s.resets := rfl

@[simp] theorem State.raiseIllegalCommand_width : (s.raiseIllegalCommand).width = s.width := rfl
@[simp] theorem State.raiseIllegalCommand_resetKind : (s.raiseIllegalCommand).resetKind = s.resetKind := rfl
@[simp] theorem State.raiseIllegalCommand_lanes : (s.raiseIllegalCommand).lanes = s.lanes := rfl
@[simp] theorem State.raiseIllegalCommand_written : (s.raiseIllegalCommand).written = s.written := rfl
@[simp] theorem State.raiseIllegalCommand_phase : (s.raiseIllegalCommand).phase = .responding .illegalCommand 0 := rfl
@[simp] theorem State.raiseIllegalCommand_wdata : (s.raiseIllegalCommand).wdata = s.wdata := rfl
@[simp] theorem State.raiseIllegalCommand_unanswered : (s.raiseIllegalCommand).unanswered = s.unanswered := rfl
@[simp] theorem State.raiseIllegalCommand_commands : (s.raiseIllegalCommand).commands = s.commands := rfl
@[simp] theorem State.raiseIllegalCommand_responses : (s.raiseIllegalCommand).responses = s.responses := rfl
@[simp] theorem State.raiseIllegalCommand_host : (s.raiseIllegalCommand).host = s.host := rfl
@[simp] theorem State.raiseIllegalCommand_script : (s.raiseIllegalCommand).script = s.script := rfl
@[simp] theorem State.raiseIllegalCommand_modelFault : (s.raiseIllegalCommand).modelFault = s.modelFault := rfl
@[simp] theorem State.raiseIllegalCommand_resets : (s.raiseIllegalCommand).resets = s.resets := rfl

@[simp] theorem State.writeLane_width (j : Fin 25) (v : BitVec s.width.bits) :
    (s.writeLane j v).width =
      s.width := rfl
@[simp] theorem State.writeLane_resetKind (j : Fin 25) (v : BitVec s.width.bits) :
    (s.writeLane j v).resetKind =
      s.resetKind := rfl
@[simp] theorem State.writeLane_lanes (j : Fin 25) (v : BitVec s.width.bits) :
    (s.writeLane j v).lanes =
      s.lanes.set j.val v := rfl
@[simp] theorem State.writeLane_written (j : Fin 25) (v : BitVec s.width.bits) :
    (s.writeLane j v).written =
      s.written.set j.val true := rfl
@[simp] theorem State.writeLane_phase (j : Fin 25) (v : BitVec s.width.bits) :
    (s.writeLane j v).phase =
      s.phase := rfl
@[simp] theorem State.writeLane_wdata (j : Fin 25) (v : BitVec s.width.bits) :
    (s.writeLane j v).wdata =
      s.wdata := rfl
@[simp] theorem State.writeLane_unanswered (j : Fin 25) (v : BitVec s.width.bits) :
    (s.writeLane j v).unanswered =
      s.unanswered := rfl
@[simp] theorem State.writeLane_commands (j : Fin 25) (v : BitVec s.width.bits) :
    (s.writeLane j v).commands =
      s.commands := rfl
@[simp] theorem State.writeLane_responses (j : Fin 25) (v : BitVec s.width.bits) :
    (s.writeLane j v).responses =
      s.responses := rfl
@[simp] theorem State.writeLane_host (j : Fin 25) (v : BitVec s.width.bits) : (s.writeLane j v).host = s.host := rfl
@[simp] theorem State.writeLane_script (j : Fin 25) (v : BitVec s.width.bits) :
    (s.writeLane j v).script =
      s.script := rfl
@[simp] theorem State.writeLane_modelFault (j : Fin 25) (v : BitVec s.width.bits) :
    (s.writeLane j v).modelFault =
      s.modelFault := rfl
@[simp] theorem State.writeLane_resets (j : Fin 25) (v : BitVec s.width.bits) :
    (s.writeLane j v).resets =
      s.resets := rfl

@[simp] theorem State.noteRead_width (j : Fin 25) : (s.noteRead j).width = s.width := rfl
@[simp] theorem State.noteRead_resetKind (j : Fin 25) : (s.noteRead j).resetKind = s.resetKind := rfl
@[simp] theorem State.noteRead_lanes (j : Fin 25) : (s.noteRead j).lanes = s.lanes := rfl
@[simp] theorem State.noteRead_written (j : Fin 25) : (s.noteRead j).written = s.written := rfl
@[simp] theorem State.noteRead_phase (j : Fin 25) : (s.noteRead j).phase = s.phase := rfl
@[simp] theorem State.noteRead_wdata (j : Fin 25) : (s.noteRead j).wdata = s.wdata := rfl
@[simp] theorem State.noteRead_unanswered (j : Fin 25) : (s.noteRead j).unanswered = s.unanswered := rfl
@[simp] theorem State.noteRead_commands (j : Fin 25) : (s.noteRead j).commands = s.commands := rfl
@[simp] theorem State.noteRead_responses (j : Fin 25) : (s.noteRead j).responses = s.responses := rfl
@[simp] theorem State.noteRead_host (j : Fin 25) : (s.noteRead j).host = s.host := rfl
@[simp] theorem State.noteRead_script (j : Fin 25) : (s.noteRead j).script = s.script := rfl
@[simp] theorem State.noteRead_modelFault (j : Fin 25) :
    (s.noteRead j).modelFault =
      if s.written[j.val] then s.modelFault else some .unwrittenLane := rfl
@[simp] theorem State.noteRead_resets (j : Fin 25) : (s.noteRead j).resets = s.resets := rfl

@[simp] theorem State.noteReadAll_width : (s.noteReadAll).width = s.width := rfl
@[simp] theorem State.noteReadAll_resetKind : (s.noteReadAll).resetKind = s.resetKind := rfl
@[simp] theorem State.noteReadAll_lanes :
    (s.noteReadAll).lanes =
      if s.allWritten then s.lanes else Vector.ofFn fun j => s.readLane j := rfl
@[simp] theorem State.noteReadAll_written : (s.noteReadAll).written = s.written := rfl
@[simp] theorem State.noteReadAll_phase : (s.noteReadAll).phase = s.phase := rfl
@[simp] theorem State.noteReadAll_wdata : (s.noteReadAll).wdata = s.wdata := rfl
@[simp] theorem State.noteReadAll_unanswered : (s.noteReadAll).unanswered = s.unanswered := rfl
@[simp] theorem State.noteReadAll_commands : (s.noteReadAll).commands = s.commands := rfl
@[simp] theorem State.noteReadAll_responses : (s.noteReadAll).responses = s.responses := rfl
@[simp] theorem State.noteReadAll_host : (s.noteReadAll).host = s.host := rfl
@[simp] theorem State.noteReadAll_script : (s.noteReadAll).script = s.script := rfl
@[simp] theorem State.noteReadAll_modelFault :
    (s.noteReadAll).modelFault =
      if s.allWritten then s.modelFault else some .unwrittenLane := rfl
@[simp] theorem State.noteReadAll_resets : (s.noteReadAll).resets = s.resets := rfl

@[simp] theorem State.startRounds_width (w : Window) : (s.startRounds w).width = s.width := rfl
@[simp] theorem State.startRounds_resetKind (w : Window) : (s.startRounds w).resetKind = s.resetKind := rfl
@[simp] theorem State.startRounds_lanes (w : Window) : (s.startRounds w).lanes = s.lanes := rfl
@[simp] theorem State.startRounds_written (w : Window) : (s.startRounds w).written = s.written := rfl
@[simp] theorem State.startRounds_phase (w : Window) : (s.startRounds w).phase = .running w.start w.stop := rfl
@[simp] theorem State.startRounds_wdata (w : Window) : (s.startRounds w).wdata = s.wdata := rfl
@[simp] theorem State.startRounds_unanswered (w : Window) : (s.startRounds w).unanswered = s.unanswered := rfl
@[simp] theorem State.startRounds_commands (w : Window) : (s.startRounds w).commands = s.commands := rfl
@[simp] theorem State.startRounds_responses (w : Window) : (s.startRounds w).responses = s.responses := rfl
@[simp] theorem State.startRounds_host (w : Window) : (s.startRounds w).host = s.host := rfl
@[simp] theorem State.startRounds_script (w : Window) : (s.startRounds w).script = s.script := rfl
@[simp] theorem State.startRounds_modelFault (w : Window) : (s.startRounds w).modelFault = s.modelFault := rfl
@[simp] theorem State.startRounds_resets (w : Window) : (s.startRounds w).resets = s.resets := rfl

@[simp] theorem State.roundStep_width (k e : Nat) : (s.roundStep k e).width = s.width := rfl
@[simp] theorem State.roundStep_resetKind (k e : Nat) : (s.roundStep k e).resetKind = s.resetKind := rfl
@[simp] theorem State.roundStep_lanes (k e : Nat) : (s.roundStep k e).lanes = roundAt k s.lanes := rfl
@[simp] theorem State.roundStep_written (k e : Nat) :
    (s.roundStep k e).written =
      if k + 1 = e then Vector.replicate 25 true else s.written := rfl
@[simp] theorem State.roundStep_phase (k e : Nat) :
    (s.roundStep k e).phase =
      if k + 1 = e then .responding .ok 0 else .running (k + 1) e := rfl
@[simp] theorem State.roundStep_wdata (k e : Nat) : (s.roundStep k e).wdata = s.wdata := rfl
@[simp] theorem State.roundStep_unanswered (k e : Nat) : (s.roundStep k e).unanswered = s.unanswered := rfl
@[simp] theorem State.roundStep_commands (k e : Nat) : (s.roundStep k e).commands = s.commands := rfl
@[simp] theorem State.roundStep_responses (k e : Nat) : (s.roundStep k e).responses = s.responses := rfl
@[simp] theorem State.roundStep_host (k e : Nat) : (s.roundStep k e).host = s.host := rfl
@[simp] theorem State.roundStep_script (k e : Nat) : (s.roundStep k e).script = s.script := rfl
@[simp] theorem State.roundStep_modelFault (k e : Nat) : (s.roundStep k e).modelFault = s.modelFault := rfl
@[simp] theorem State.roundStep_resets (k e : Nat) : (s.roundStep k e).resets = s.resets := rfl

@[simp] theorem State.hostTurn_width : (s.hostTurn).width = s.width := rfl
@[simp] theorem State.hostTurn_resetKind : (s.hostTurn).resetKind = s.resetKind := rfl
@[simp] theorem State.hostTurn_lanes : (s.hostTurn).lanes = s.lanes := rfl
@[simp] theorem State.hostTurn_written : (s.hostTurn).written = s.written := rfl
@[simp] theorem State.hostTurn_phase : (s.hostTurn).phase = s.phase := rfl
@[simp] theorem State.hostTurn_wdata : (s.hostTurn).wdata = s.wdata := rfl
@[simp] theorem State.hostTurn_unanswered : (s.hostTurn).unanswered = s.unanswered := rfl
@[simp] theorem State.hostTurn_commands : (s.hostTurn).commands = s.commands := rfl
@[simp] theorem State.hostTurn_responses : (s.hostTurn).responses = s.responses := rfl
@[simp] theorem State.hostTurn_host : (s.hostTurn).host = s.script.headD s.host := rfl
@[simp] theorem State.hostTurn_script : (s.hostTurn).script = s.script.tail := rfl
@[simp] theorem State.hostTurn_modelFault : (s.hostTurn).modelFault = s.modelFault := rfl
@[simp] theorem State.hostTurn_resets : (s.hostTurn).resets = s.resets := rfl

@[simp] theorem State.accept_width (c : Command) (rest : List Command) : (s.accept c rest).width = s.width := rfl
@[simp] theorem State.accept_resetKind (c : Command) (rest : List Command) :
    (s.accept c rest).resetKind =
      s.resetKind := rfl
@[simp] theorem State.accept_lanes (c : Command) (rest : List Command) : (s.accept c rest).lanes = s.lanes := rfl
@[simp] theorem State.accept_written (c : Command) (rest : List Command) :
    (s.accept c rest).written =
      s.written := rfl
@[simp] theorem State.accept_phase (c : Command) (rest : List Command) : (s.accept c rest).phase = s.phase := rfl
@[simp] theorem State.accept_wdata (c : Command) (rest : List Command) : (s.accept c rest).wdata = c.wdata := rfl
@[simp] theorem State.accept_unanswered (c : Command) (rest : List Command) :
    (s.accept c rest).unanswered =
      some c := rfl
@[simp] theorem State.accept_commands (c : Command) (rest : List Command) : (s.accept c rest).commands = rest := rfl
@[simp] theorem State.accept_responses (c : Command) (rest : List Command) :
    (s.accept c rest).responses =
      s.responses := rfl
@[simp] theorem State.accept_host (c : Command) (rest : List Command) : (s.accept c rest).host = s.host := rfl
@[simp] theorem State.accept_script (c : Command) (rest : List Command) : (s.accept c rest).script = s.script := rfl
@[simp] theorem State.accept_modelFault (c : Command) (rest : List Command) :
    (s.accept c rest).modelFault =
      s.modelFault := rfl
@[simp] theorem State.accept_resets (c : Command) (rest : List Command) : (s.accept c rest).resets = s.resets := rfl

@[simp] theorem State.takeResponse_width (code : RspCode) (rdata : DataWord) :
    (s.takeResponse code rdata).width =
      s.width := rfl
@[simp] theorem State.takeResponse_resetKind (code : RspCode) (rdata : DataWord) :
    (s.takeResponse code rdata).resetKind =
      s.resetKind := rfl
@[simp] theorem State.takeResponse_lanes (code : RspCode) (rdata : DataWord) :
    (s.takeResponse code rdata).lanes =
      s.lanes := rfl
@[simp] theorem State.takeResponse_written (code : RspCode) (rdata : DataWord) :
    (s.takeResponse code rdata).written =
      s.written := rfl
@[simp] theorem State.takeResponse_phase (code : RspCode) (rdata : DataWord) :
    (s.takeResponse code rdata).phase =
      .idle := rfl
@[simp] theorem State.takeResponse_wdata (code : RspCode) (rdata : DataWord) :
    (s.takeResponse code rdata).wdata =
      s.wdata := rfl
@[simp] theorem State.takeResponse_unanswered (code : RspCode) (rdata : DataWord) :
    (s.takeResponse code rdata).unanswered =
      none := rfl
@[simp] theorem State.takeResponse_commands (code : RspCode) (rdata : DataWord) :
    (s.takeResponse code rdata).commands =
      s.commands := rfl
@[simp] theorem State.takeResponse_responses (code : RspCode) (rdata : DataWord) :
    (s.takeResponse code rdata).responses =
      s.responses ++ [⟨code, rdata⟩] := rfl
@[simp] theorem State.takeResponse_host (code : RspCode) (rdata : DataWord) :
    (s.takeResponse code rdata).host =
      s.host := rfl
@[simp] theorem State.takeResponse_script (code : RspCode) (rdata : DataWord) :
    (s.takeResponse code rdata).script =
      s.script := rfl
@[simp] theorem State.takeResponse_modelFault (code : RspCode) (rdata : DataWord) :
    (s.takeResponse code rdata).modelFault =
      s.modelFault := rfl
@[simp] theorem State.takeResponse_resets (code : RspCode) (rdata : DataWord) :
    (s.takeResponse code rdata).resets =
      s.resets := rfl

@[simp] theorem State.present_width (cs : List Command) : (s.present cs).width = s.width := rfl
@[simp] theorem State.present_resetKind (cs : List Command) : (s.present cs).resetKind = s.resetKind := rfl
@[simp] theorem State.present_lanes (cs : List Command) : (s.present cs).lanes = s.lanes := rfl
@[simp] theorem State.present_written (cs : List Command) : (s.present cs).written = s.written := rfl
@[simp] theorem State.present_phase (cs : List Command) : (s.present cs).phase = s.phase := rfl
@[simp] theorem State.present_wdata (cs : List Command) : (s.present cs).wdata = s.wdata := rfl
@[simp] theorem State.present_unanswered (cs : List Command) : (s.present cs).unanswered = s.unanswered := rfl
@[simp] theorem State.present_commands (cs : List Command) : (s.present cs).commands = s.commands ++ cs := rfl
@[simp] theorem State.present_responses (cs : List Command) : (s.present cs).responses = s.responses := rfl
@[simp] theorem State.present_host (cs : List Command) : (s.present cs).host = s.host := rfl
@[simp] theorem State.present_script (cs : List Command) : (s.present cs).script = s.script := rfl
@[simp] theorem State.present_modelFault (cs : List Command) : (s.present cs).modelFault = s.modelFault := rfl
@[simp] theorem State.present_resets (cs : List Command) : (s.present cs).resets = s.resets := rfl

@[simp] theorem State.resetEngine_width : (s.resetEngine).width = s.width := rfl
@[simp] theorem State.resetEngine_resetKind : (s.resetEngine).resetKind = s.resetKind := rfl
@[simp] theorem State.resetEngine_lanes :
    (s.resetEngine).lanes =
      Vector.ofFn fun j : Fin 25 => trunc s.width.bits (Config.unwrittenLane (s.resets + 1) j.val) := rfl
@[simp] theorem State.resetEngine_written : (s.resetEngine).written = Vector.replicate 25 false := rfl
@[simp] theorem State.resetEngine_phase : (s.resetEngine).phase = .idle := rfl
@[simp] theorem State.resetEngine_wdata : (s.resetEngine).wdata = s.wdata := rfl
@[simp] theorem State.resetEngine_unanswered : (s.resetEngine).unanswered = s.unanswered := rfl
@[simp] theorem State.resetEngine_commands : (s.resetEngine).commands = s.commands := rfl
@[simp] theorem State.resetEngine_responses : (s.resetEngine).responses = s.responses := rfl
@[simp] theorem State.resetEngine_host : (s.resetEngine).host = s.host := rfl
@[simp] theorem State.resetEngine_script : (s.resetEngine).script = s.script := rfl
@[simp] theorem State.resetEngine_modelFault : (s.resetEngine).modelFault = s.modelFault := rfl
@[simp] theorem State.resetEngine_resets : (s.resetEngine).resets = s.resets + 1 := rfl

@[simp] theorem State.placeCommand_width (c : Command) : (s.placeCommand c).width = s.width := rfl
@[simp] theorem State.placeCommand_resetKind (c : Command) : (s.placeCommand c).resetKind = s.resetKind := rfl
@[simp] theorem State.placeCommand_lanes (c : Command) : (s.placeCommand c).lanes = s.lanes := rfl
@[simp] theorem State.placeCommand_written (c : Command) : (s.placeCommand c).written = s.written := rfl
@[simp] theorem State.placeCommand_phase (c : Command) : (s.placeCommand c).phase = .idle := rfl
@[simp] theorem State.placeCommand_wdata (c : Command) : (s.placeCommand c).wdata = s.wdata := rfl
@[simp] theorem State.placeCommand_unanswered (c : Command) : (s.placeCommand c).unanswered = s.unanswered := rfl
@[simp] theorem State.placeCommand_commands (c : Command) : (s.placeCommand c).commands = c :: s.commands := rfl
@[simp] theorem State.placeCommand_responses (c : Command) : (s.placeCommand c).responses = s.responses := rfl
@[simp] theorem State.placeCommand_host (c : Command) :
    (s.placeCommand c).host =
      if s.resetAsserted then .takes else s.host := rfl
@[simp] theorem State.placeCommand_script (c : Command) : (s.placeCommand c).script = s.script := rfl
@[simp] theorem State.placeCommand_modelFault (c : Command) : (s.placeCommand c).modelFault = s.modelFault := rfl
@[simp] theorem State.placeCommand_resets (c : Command) : (s.placeCommand c).resets = s.resets := rfl

@[simp] theorem State.answer_width (code : RspCode) (rdata : DataWord) : (s.answer code rdata).width = s.width := rfl
@[simp] theorem State.answer_resetKind (code : RspCode) (rdata : DataWord) :
    (s.answer code rdata).resetKind =
      s.resetKind := rfl
@[simp] theorem State.answer_lanes (code : RspCode) (rdata : DataWord) : (s.answer code rdata).lanes = s.lanes := rfl
@[simp] theorem State.answer_written (code : RspCode) (rdata : DataWord) :
    (s.answer code rdata).written =
      s.written := rfl
@[simp] theorem State.answer_phase (code : RspCode) (rdata : DataWord) : (s.answer code rdata).phase = s.phase := rfl
@[simp] theorem State.answer_wdata (code : RspCode) (rdata : DataWord) : (s.answer code rdata).wdata = s.wdata := rfl
@[simp] theorem State.answer_unanswered (code : RspCode) (rdata : DataWord) :
    (s.answer code rdata).unanswered =
      s.unanswered := rfl
@[simp] theorem State.answer_commands (code : RspCode) (rdata : DataWord) :
    (s.answer code rdata).commands =
      s.commands := rfl
@[simp] theorem State.answer_responses (code : RspCode) (rdata : DataWord) :
    (s.answer code rdata).responses =
      s.responses ++ [⟨code, rdata⟩] := rfl
@[simp] theorem State.answer_host (code : RspCode) (rdata : DataWord) : (s.answer code rdata).host = s.host := rfl
@[simp] theorem State.answer_script (code : RspCode) (rdata : DataWord) :
    (s.answer code rdata).script =
      s.script := rfl
@[simp] theorem State.answer_modelFault (code : RspCode) (rdata : DataWord) :
    (s.answer code rdata).modelFault =
      s.modelFault := rfl
@[simp] theorem State.answer_resets (code : RspCode) (rdata : DataWord) :
    (s.answer code rdata).resets =
      s.resets := rfl

@[simp] theorem State.permuteAtOnce_width (nr : Nat) : (s.permuteAtOnce nr).width = s.width := rfl
@[simp] theorem State.permuteAtOnce_resetKind (nr : Nat) : (s.permuteAtOnce nr).resetKind = s.resetKind := rfl
@[simp] theorem State.permuteAtOnce_lanes (nr : Nat) :
    (s.permuteAtOnce nr).lanes =
      keccakP s.width s.noteReadAll.lanes nr := rfl
@[simp] theorem State.permuteAtOnce_written (nr : Nat) :
    (s.permuteAtOnce nr).written =
      Vector.replicate 25 true := rfl
@[simp] theorem State.permuteAtOnce_phase (nr : Nat) : (s.permuteAtOnce nr).phase = s.phase := rfl
@[simp] theorem State.permuteAtOnce_wdata (nr : Nat) : (s.permuteAtOnce nr).wdata = s.wdata := rfl
@[simp] theorem State.permuteAtOnce_unanswered (nr : Nat) : (s.permuteAtOnce nr).unanswered = s.unanswered := rfl
@[simp] theorem State.permuteAtOnce_commands (nr : Nat) : (s.permuteAtOnce nr).commands = s.commands := rfl
@[simp] theorem State.permuteAtOnce_responses (nr : Nat) : (s.permuteAtOnce nr).responses = s.responses := rfl
@[simp] theorem State.permuteAtOnce_host (nr : Nat) : (s.permuteAtOnce nr).host = s.host := rfl
@[simp] theorem State.permuteAtOnce_script (nr : Nat) : (s.permuteAtOnce nr).script = s.script := rfl
@[simp] theorem State.permuteAtOnce_modelFault (nr : Nat) :
    (s.permuteAtOnce nr).modelFault =
      if s.allWritten then s.modelFault else some .unwrittenLane := rfl
@[simp] theorem State.permuteAtOnce_resets (nr : Nat) : (s.permuteAtOnce nr).resets = s.resets := rfl

/-! ### The state after reset -/

variable (w : Width) (kind : ResetKind)

@[simp] theorem State.resetAt_width : (State.resetAt w kind).width = w := rfl
@[simp] theorem State.resetAt_resetKind : (State.resetAt w kind).resetKind = kind := rfl
@[simp] theorem State.resetAt_lanes : (State.resetAt w kind).lanes = Vector.replicate 25 0 := rfl
@[simp] theorem State.resetAt_written : (State.resetAt w kind).written = Vector.replicate 25 false := rfl
@[simp] theorem State.resetAt_phase : (State.resetAt w kind).phase = .idle := rfl
@[simp] theorem State.resetAt_wdata : (State.resetAt w kind).wdata = 0 := rfl
@[simp] theorem State.resetAt_unanswered : (State.resetAt w kind).unanswered = none := rfl
@[simp] theorem State.resetAt_commands : (State.resetAt w kind).commands = [] := rfl
@[simp] theorem State.resetAt_responses : (State.resetAt w kind).responses = [] := rfl
@[simp] theorem State.resetAt_host : (State.resetAt w kind).host = .takes := rfl
@[simp] theorem State.resetAt_script : (State.resetAt w kind).script = [] := rfl
@[simp] theorem State.resetAt_modelFault : (State.resetAt w kind).modelFault = none := rfl
@[simp] theorem State.resetAt_resets : (State.resetAt w kind).resets = 0 := rfl

end Sys2Proof.Machine
end

