-- ==== Sys2Proof/Laws/Ops.lean ====
section
/-! SUPPORT. What the shared operations do where nothing is unwritten, and the small laws of the window and the round
sequence. -/

namespace Sys2Proof.Machine

variable (s : State)

/-- All lanes are written exactly when each WR bit is true (R17). -/
theorem State.allWritten_iff : s.allWritten = true ↔ ∀ j : Fin 25, s.written[j.val] = true := by
  simp only [State.allWritten, List.all_eq_true, id]
  constructor
  · intro h j
    exact h _ (by simp)
  · intro h b hb
    obtain ⟨i, hi, rfl⟩ := List.mem_iff_getElem.mp hb
    exact h ⟨i, by simpa using hi⟩

/-- A written lane reads as it stands (R84). -/
theorem State.readLane_of_written {j : Fin 25} (h : s.written[j.val] = true) : s.readLane j = s.lanes[j.val] := by
  simp [State.readLane, h]

/-- An unwritten lane reads as the free value (R85). -/
theorem State.readLane_of_unwritten {j : Fin 25} (h : s.written[j.val] = false) :
    s.readLane j = trunc s.width.bits (Config.unwrittenLane s.resets j.val) := by
  simp [State.readLane, h]

/-- Reading a written lane records nothing. -/
theorem State.noteRead_of_written {j : Fin 25} (h : s.written[j.val] = true) : s.noteRead j = s := by
  simp [State.noteRead, h]

/-- Reading 25 written lanes records nothing and changes nothing. -/
theorem State.noteReadAll_of_allWritten (h : s.allWritten = true) : s.noteReadAll = s := by
  simp [State.noteReadAll, h]

/-- A host with nothing left in its script keeps driving what it drives. -/
theorem State.hostTurn_of_script_nil (h : s.script = []) : s.hostTurn = s := by
  cases s; simp_all [State.hostTurn]

/-- Below the ceiling the window is the trailing slice; above it the round count is refused (R69). -/
theorem windowMap_cases (w : Width) (nr : BitVec 8) :
    (nrMax w < nr.toNat ∧ windowMap w nr = none) ∨
      (nr.toNat ≤ nrMax w ∧ windowMap w nr = some ⟨nrMax w - nr.toNat, nrMax w⟩) := by
  unfold windowMap; split <;> simp_all

/-- The ceiling never passes the end of the constant table (R6, R28). -/
theorem nrMax_le (w : Width) : nrMax w ≤ 24 := by cases w <;> decide

variable {w : Nat}

/-- Where RC[k] exists, the round with index k is the round with that constant (R73). -/
theorem roundAt_of_lt {k : Nat} (h : k < 24) (A : Lanes w) : roundAt k A = round A (roundConstant w ⟨k, h⟩) := by
  simp [roundAt, h]

@[simp] theorem roundsFrom_zero (k : Nat) (A : Lanes w) : roundsFrom k 0 A = A := rfl

@[simp] theorem roundsFrom_succ (k n : Nat) (A : Lanes w) :
    roundsFrom k (n + 1) A = roundsFrom (k + 1) n (roundAt k A) := rfl

/-- Rounds in one run may be cut in two (R71). -/
theorem roundsFrom_add (k m n : Nat) (A : Lanes w) :
    roundsFrom k (m + n) A = roundsFrom (k + m) n (roundsFrom k m A) := by
  induction m generalizing k A with
  | zero => simp
  | succ m ih =>
    have h : m + 1 + n = m + n + 1 := by omega
    have h' : k + (m + 1) = k + 1 + m := by omega
    rw [h, roundsFrom_succ, ih, roundsFrom_succ, h']

end Sys2Proof.Machine
end

