-- ==== Sys2Proof/Laws/Exec.lean ====
section
/-! SUPPORT. What a command can do, said once: every answer of `exec` is one of these next states. -/

namespace Sys2Proof.Machine

variable {s t : State}

/-- Everything PERMUTE can answer (R72, R91). -/
theorem execPermute_cases {nr : BitVec 8} (h : exec (.permute nr) s = .next t) :
    (nrMax s.width < nr.toNat ∧ t = s.raiseRoundCountTooHigh) ∨
    (nr = 0 ∧ t = s.respond .ok 0) ∨
    (nr ≠ 0 ∧ nr.toNat ≤ nrMax s.width ∧
      t = s.noteReadAll.startRounds ⟨nrMax s.width - nr.toNat, nrMax s.width⟩) := by
  simp only [exec, execPermute] at h
  obtain ⟨hgt, hw⟩ | ⟨hle, hw⟩ := windowMap_cases s.width nr
  · rw [hw] at h
    injection h with h
    exact .inl ⟨hgt, h.symm⟩
  · rw [hw] at h
    by_cases h0 : nr = 0
    · simp only [h0, if_true] at h
      injection h with h
      exact .inr (.inl ⟨h0, h.symm⟩)
    · simp only [h0, if_false] at h
      injection h with h
      exact .inr (.inr ⟨h0, hle, h.symm⟩)

/-- Everything WRLANE can answer (R82). -/
theorem execWrlane_cases {i : BitVec 5} (h : exec (.wrlane i) s = .next t) :
    (25 ≤ i.toNat ∧ t = s.raiseIllegalCommand) ∨
    (∃ j : Fin 25, i.toNat = j.val ∧ t = (s.writeLane j (trunc s.width.bits s.wdata)).respond .ok 0) := by
  simp only [exec, execWrlane] at h
  by_cases hi : i.toNat < 25
  · rw [laneIndex_of_lt hi] at h
    injection h with h
    exact .inr ⟨⟨i.toNat, hi⟩, rfl, h.symm⟩
  · rw [laneIndex_of_ge (Nat.not_lt.mp hi)] at h
    injection h with h
    exact .inl ⟨Nat.not_lt.mp hi, h.symm⟩

/-- Everything RDLANE can answer (R84, R85). -/
theorem execRdlane_cases {i : BitVec 5} (h : exec (.rdlane i) s = .next t) :
    (25 ≤ i.toNat ∧ t = s.raiseIllegalCommand) ∨
    (∃ j : Fin 25, i.toNat = j.val ∧ t = (s.noteRead j).respond .ok (zext64 (s.readLane j))) := by
  simp only [exec, execRdlane] at h
  by_cases hi : i.toNat < 25
  · rw [laneIndex_of_lt hi] at h
    injection h with h
    exact .inr ⟨⟨i.toNat, hi⟩, rfl, h.symm⟩
  · rw [laneIndex_of_ge (Nat.not_lt.mp hi)] at h
    injection h with h
    exact .inl ⟨Nat.not_lt.mp hi, h.symm⟩

end Sys2Proof.Machine
end

