-- ==== Sys2Proof/Laws/Lanes.lean ====
section
/-! SUPPORT. The lanes under each operation, read through `State.lane64`, which does not depend on the width's type: a
proof about one lane cites these and rewrites no record. -/

namespace Sys2Proof.Machine

variable (s : State) (j : Fin 25)

@[simp] theorem State.lane64_respond (code : RspCode) (rdata : DataWord) : (s.respond code rdata).lane64 j = s.lane64 j := rfl
@[simp] theorem State.lane64_noteRead (k : Fin 25) : (s.noteRead k).lane64 j = s.lane64 j := rfl
@[simp] theorem State.lane64_startRounds (w : Window) : (s.startRounds w).lane64 j = s.lane64 j := rfl
@[simp] theorem State.lane64_hostTurn : (s.hostTurn).lane64 j = s.lane64 j := rfl
@[simp] theorem State.lane64_accept (c : Command) (rest : List Command) : (s.accept c rest).lane64 j = s.lane64 j := rfl
@[simp] theorem State.lane64_takeResponse (code : RspCode) (rdata : DataWord) : (s.takeResponse code rdata).lane64 j = s.lane64 j := rfl
@[simp] theorem State.lane64_present (cs : List Command) : (s.present cs).lane64 j = s.lane64 j := rfl
@[simp] theorem State.lane64_answer (code : RspCode) (rdata : DataWord) :
    (s.answer code rdata).lane64 j = s.lane64 j := rfl
@[simp] theorem State.lane64_placeCommand (c : Command) : (s.placeCommand c).lane64 j = s.lane64 j := rfl

/-- The written lane holds the value (R82). -/
@[simp] theorem State.lane64_writeLane_self (v : BitVec s.width.bits) : (s.writeLane j v).lane64 j = zext64 v := by
  simp [State.lane64, State.writeLane]

/-- After a reset a lane holds the free value of that reset (R102). -/
theorem State.lane64_resetEngine :
    s.resetEngine.lane64 j = zext64 (trunc s.width.bits (Config.unwrittenLane (s.resets + 1) j.val)) := by
  simp [State.lane64, State.resetEngine]

/-- After a reset a read of a lane gives the free value of that reset (R103). -/
theorem State.readLane_resetEngine :
    s.resetEngine.readLane j = trunc s.width.bits (Config.unwrittenLane (s.resets + 1) j.val) := by
  simp [State.readLane, State.resetEngine]

/-- Every other lane stays (R86). -/
theorem State.lane64_writeLane_of_ne {k : Fin 25} (v : BitVec s.width.bits) (h : k ≠ j) :
    (s.writeLane k v).lane64 j = s.lane64 j := by
  have h' : k.val ≠ j.val := fun e => h (Fin.ext e)
  simp [State.lane64, State.writeLane, Vector.getElem_set_ne, h']

/-- The read of all lanes leaves the written ones as they are (R80). -/
theorem State.lane64_noteReadAll_of_written (h : s.written[j.val] = true) :
    s.noteReadAll.lane64 j = s.lane64 j := by
  by_cases ha : s.allWritten
  · simp [State.lane64, State.noteReadAll, ha]
  · simp [State.lane64, State.noteReadAll, ha, State.readLane, h]

end Sys2Proof.Machine
end

