-- ==== Sys2Proof/Laws/PerInstr.lean ====
section
/-! SUPPORT. Statements for all commands, made per command (LAWS.json "per_instruction"). -/

namespace Sys2Proof.Laws

/-- A command's word has that command's opcode in bits 31..24 and belongs to no other opcode (R43, R44). -/
def OpcodeField.Statement (i : Instr) : Prop :=
  opField (encode i) = opcodeOf i ∧ opcodeOf i ≠ 0x00

theorem OpcodeField.permute (nr : BitVec 8) : OpcodeField.Statement (.permute nr) :=
  ⟨opField_encode _, by simp [opcodeOf]⟩

theorem OpcodeField.wrlane (i : BitVec 5) : OpcodeField.Statement (.wrlane i) :=
  ⟨opField_encode _, by simp [opcodeOf]⟩

theorem OpcodeField.rdlane (i : BitVec 5) : OpcodeField.Statement (.rdlane i) :=
  ⟨opField_encode _, by simp [opcodeOf]⟩

end Sys2Proof.Laws
end

