-- ==== Sys2Proof/Laws/Step.lean ====
section
/-! SUPPORT. What one step can do, said once: a reset, an accepted command, a round, a response taken, or a wait. -/

namespace Sys2Proof.Machine

variable {s t : State}

/-- Everything a step can answer (R53, R73, R102). -/
theorem step_cases (h : step s = .next t) :
    (s.host = .resets ∧ t = s.hostTurn.resetEngine) ∨
    (s.host ≠ .resets ∧ s.phase = .idle ∧ s.commands = [] ∧ t = s.hostTurn) ∨
    (s.host ≠ .resets ∧ s.phase = .idle ∧
      ∃ c rest, s.commands = c :: rest ∧ perform c.word (s.hostTurn.accept c rest) = .next t) ∨
    (s.host ≠ .resets ∧ ∃ k e, s.phase = .running k e ∧ t = s.hostTurn.roundStep k e) ∨
    (s.host = .takes ∧ ∃ code rdata, s.phase = .responding code rdata ∧ t = s.hostTurn.takeResponse code rdata) ∨
    (s.host = .waits ∧ ∃ code rdata, s.phase = .responding code rdata ∧ t = s.hostTurn) := by
  unfold step at h
  by_cases hr : s.host = .resets
  · simp only [State.resetAsserted, hr, decide_true, if_true] at h
    injection h with h
    exact .inl ⟨hr, h.symm⟩
  · simp only [State.resetAsserted, hr, decide_false, Bool.false_eq_true, if_false] at h
    refine .inr ?_
    match hp : s.phase with
    | .idle =>
      rw [hp] at h
      match hc : s.commands with
      | [] =>
        rw [hc] at h
        injection h with h
        exact .inl ⟨hr, rfl, rfl, h.symm⟩
      | c :: rest =>
        rw [hc] at h
        exact .inr (.inl ⟨hr, rfl, c, rest, rfl, h⟩)
    | .running k e =>
      rw [hp] at h
      injection h with h
      exact .inr (.inr (.inl ⟨hr, k, e, rfl, h.symm⟩))
    | .responding code rdata =>
      rw [hp] at h
      injection h with h
      refine .inr (.inr (.inr ?_))
      cases hh : s.host with
      | resets => exact absurd hh hr
      | takes =>
        simp only [State.rspReady, hh, decide_true, if_true] at h
        exact .inl ⟨rfl, code, rdata, rfl, h.symm⟩
      | waits =>
        simp only [State.rspReady, hh, reduceCtorEq, decide_false, Bool.false_eq_true, if_false] at h
        exact .inr ⟨rfl, code, rdata, rfl, h.symm⟩

/-- What performing a word can answer: an illegal word is answered, a legal one is executed (R48, R49). -/
theorem perform_cases {cmd : CmdWord} (h : perform cmd s = .next t) :
    (∃ e, decode cmd = .error e ∧ t = s.raiseIllegalCommand) ∨ (∃ i, decode cmd = .ok i ∧ exec i s = .next t) := by
  unfold perform at h
  match hd : decode cmd with
  | .ok i => rw [hd] at h; exact .inr ⟨i, rfl, h⟩
  | .error e =>
    rw [hd] at h
    injection h with h
    exact .inl ⟨e, rfl, h.symm⟩

end Sys2Proof.Machine
end

