-- ==== Sys2Proof/Laws/Run.lean ====
section
/-! SUPPORT. Runs of several steps, and the host's moves along them. -/

namespace Sys2Proof.Machine

variable {s t : State}

@[simp] theorem runs_zero (s : State) : runs 0 s = .next s := rfl

/-- One step, then the rest of the run. -/
theorem runs_succ_of_step {n : Nat} (h : step s = .next t) : runs (n + 1) s = runs n t := by
  simp only [runs, Host.Core.run]
  rw [show core.step s = step s from rfl, h]

/-- A run that gives a state may be continued from it. -/
theorem runs_add {m n : Nat} (h : runs m s = .next t) : runs (m + n) s = runs n t := by
  induction m generalizing s with
  | zero => cases h; simp
  | succ m ih =>
    have hm : m + 1 + n = m + n + 1 := by omega
    rw [hm]
    match hs : step s with
    | .next u => rw [runs_succ_of_step hs] at h ⊢; exact ih h
    | .fault r => simp [runs, Host.Core.run, show core.step s = step s from rfl, hs] at h
    | .refused r => simp [runs, Host.Core.run, show core.step s = step s from rfl, hs] at h

@[simp] theorem State.moveAt_zero (s : State) : s.moveAt 0 = s.host := rfl

@[simp] theorem State.moveAt_succ (s : State) (n : Nat) : s.moveAt (n + 1) = s.hostTurn.moveAt n := rfl

/-- A host that always takes goes on as it is. -/
theorem State.HostTakes.hostTurn_eq (h : s.HostTakes) : s.hostTurn = s := State.hostTurn_of_script_nil s h.2

end Sys2Proof.Machine
end

