-- ==== Sys2Proof/Tests/Slice0.lean ====
section
/-! SUPPORT. Small tests, every expected value from spec/ (95_test_vectors.md by its V number, or a rule's own example),
and for each obligation with hypotheses a named witness that meets them all. -/

namespace Sys2Proof.Tests

open Sys2Proof.Machine

/-! ### Well-formedness and decoding -/

/-- R49: lane index 25 of WRLANE and 31 of RDLANE are refused; 24 is legal. -/
theorem test_wf_refuses_lane_index :
    (Instr.wrlane 25).wf = false ∧ (Instr.rdlane 31).wf = false ∧ (Instr.wrlane 24).wf = true ∧
      (Instr.rdlane 24).wf = true ∧ (Instr.permute 255).wf = true := by decide

/-- V16: PERMUTE 18, written out bit by bit from the PERMUTE form of R43. -/
theorem test_decode_permute :
    decode 0b00000001_0000000000000000_00010010 = .ok (.permute 18) := by decide

/-- V16: WRLANE 24, written out bit by bit from the LANE form of R43. -/
theorem test_decode_wrlane :
    decode 0b00000010_0000000000000000000_11000 = .ok (.wrlane 24) := by decide

/-- V16: RDLANE 7, written out bit by bit from the LANE form of R43. -/
theorem test_decode_rdlane :
    decode 0b00000011_0000000000000000000_00111 = .ok (.rdlane 7) := by decide

/-- V16, R49: one illegal word of each kind, and the all-ones word. -/
theorem test_decode_illegal :
    decode 0x04000000 = .error .unknownOpcode ∧ decode 0x01800000 = .error .permuteReserved ∧
      decode 0x03010000 = .error .laneReserved ∧ decode 0x0200001F = .error .laneIndex ∧
      decode 0xFFFFFFFF = .error .unknownOpcode := by decide

/-- The host's numbering of a table word: bit 0 is the least significant bit of the command word. -/
theorem test_decodeTableWord :
    decodeTableWord 32 0x01000012 = some (.permute 18) ∧ decodeTableWord 32 0x02000018 = some (.wrlane 24) ∧
      decodeTableWord 32 0x02000019 = none := by decide

/-- R55, P3: a line with a comment, a raw word without data, and a value outside its range. -/
theorem test_assembleText :
    assembleText .w16 ['R', 'D', 'L', 'A', 'N', 'E', ' ', '0', 'x', '1', '8', ' ', ';', 'r'] = some [⟨0x03000018, 0⟩] ∧
      assembleText .w16 ['.', 'w', 'o', 'r', 'd', ' ', '0', 'x', '1', ',', '2'] = some [⟨1, 2⟩] ∧
      assembleText .w16 ['P', 'E', 'R', 'M', 'U', 'T', 'E', ' ', '2', '5', '6'] = none ∧
      assembleText .w16 ['P', 'E', 'R', 'M', 'U', 'T', 'E', 'F'] = some [⟨0x01000014, 0⟩] := by decide

/-! ### Lane arithmetic, the window and the round -/

/-- V15: rotations by 0 mod W, within W and beyond W. -/
theorem test_rotl :
    rotl 0x81#8 1 = 0x03#8 ∧ rotl 0x96#8 56 = 0x96#8 ∧ rotl 0x1234#16 62 = 0x048D#16 ∧
      rotl 0x80000001#32 62 = 0x60000000#32 ∧ rotl 0x0123456789ABCDEF#64 44 = 0xBCDEF0123456789A#64 := by decide

/-- V14: RC[3] and RC[19] truncated. -/
theorem test_roundConstant :
    roundConstant 8 3 = 0x00#8 ∧ roundConstant 16 3 = 0x8000#16 ∧ roundConstant 32 19 = 0x8000000A#32 := by decide

/-- V13: windows at the ceiling, one above it, and empty. -/
theorem test_windowMap :
    windowMap .w8 18 = some ⟨0, 18⟩ ∧ windowMap .w8 19 = none ∧ windowMap .w16 3 = some ⟨17, 20⟩ ∧
      windowMap .w32 23 = none ∧ windowMap .w8 0 = some ⟨18, 18⟩ := by decide

/-- Lanes of which only the listed one is not zero. -/
def single {w : Nat} (i : Fin 25) (v : BitVec w) : Lanes w := (Vector.replicate 25 0).set i.val v

/-- V24: Theta of a single top bit at W = 16, lanes 0 to 4. -/
theorem test_theta :
    (theta (single 0 0x8000#16)).toList.take 5 = [0x8000#16, 0x8000#16, 0, 0, 0x0001#16] := by decide

/-- V25: RhoPi of single lanes, in both forms. -/
theorem test_rhoPi :
    rhoPi (single 14 0x5A#8) = single 22 0x2D#8 ∧ rhoPiInPlace (single 23 0x96#8) = single 19 0x96#8 ∧
      rhoPi (single 6 0x80000001#32) = single 1 0x00001800#32 := by decide

/-- V26: Chi of a single set lane in row 0. -/
theorem test_chi :
    (chi (single 1 0xFFFF#16)).toList.take 5 = [0, 0xFFFF#16, 0, 0, 0xFFFF#16] := by decide

/-! ### The commands, one step each -/

/-- The predicate holds of the next state an outcome gives. -/
def onNext (o : Host.Outcome State Fault Refusal) (p : State → Bool) : Bool :=
  match o with
  | .next t => p t
  | _ => false

/-- A state of width w with every lane written, the lanes given, and the phase given. -/
def loaded (w : Width) (lanes : Lanes w.bits) (phase : Phase) : State :=
  { State.resetAt w with
    lanes := lanes
    written := Vector.replicate 25 true
    phase := phase
    unanswered := if phase = .idle then none else some ⟨0x01000001, 0⟩ }

/-- All lanes zero, all written, Idle: the "zero state" of 95_test_vectors.md. -/
def zeroState (w : Width) : State := loaded w (Vector.replicate 25 0) .idle

/-- A freshly reset engine of width w to which the host presents the commands. -/
def fresh (w : Width) (cs : List Command) : State := (State.resetAt w).present cs

/-- V17: WRLANE 0 at W = 8 keeps the low 8 bits of 0x123 and sets WR[0] only. -/
theorem test_wrlane_truncates :
    onNext (step (fresh .w8 [⟨0x02000000, 0x0123⟩])) (fun t =>
      decide (t.lane64 0 = 0x23) && t.written[0] && !t.written[1] && decide (t.phase = .responding .ok 0)) = true := by
  decide

/-- V17: WRLANE 12 at W = 64 keeps all 64 bits. -/
theorem test_wrlane_whole_word :
    onNext (step (fresh .w64 [⟨0x0200000C, 0x123456789ABCDEF0⟩])) (fun t =>
      decide (t.lane64 12 = 0x123456789ABCDEF0) && decide (t.lane64 11 = 0)) = true := by decide

/-- V18: RDLANE 24 of a lane holding 0xEA at W = 8 gives it zero-extended. -/
theorem test_rdlane_zero_extends :
    onNext (exec (.rdlane 24) (loaded .w8 (single 24 0xEA#8) .idle)) (fun t =>
      decide (t.phase = .responding .ok 0x00000000000000EA) && decide (t.modelFault = none)) = true := by decide

/-- V18: RDLANE 3 just after reset is the model fault UnwrittenLane. -/
theorem test_rdlane_unwritten :
    onNext (step (fresh .w16 [⟨0x03000003, 0⟩])) (fun t =>
      decide (t.modelFault = some .unwrittenLane)) = true := by decide

/-- V19: with no lane written, PERMUTE 19 at W = 8 is refused without a model fault. -/
theorem test_permute_too_high :
    onNext (step (fresh .w8 [⟨0x01000013, 0⟩])) (fun t =>
      decide (t.phase = .responding .roundCountTooHigh 0) && decide (t.modelFault = none)) = true := by decide

/-- V13, V22: PERMUTE 1 at W = 64 starts at RC[23]. -/
theorem test_permute_starts :
    onNext (exec (.permute 1) (zeroState .w64)) (fun t => decide (t.phase = .running 23 24)) = true := by decide

/-- V20: the round of PERMUTE 1 on S[i] = i at W = 8 (RC[17]), rows 0 and 4. -/
theorem test_round_step :
    onNext (step (loaded .w8 (Vector.ofFn fun i => BitVec.ofNat 8 i.val) (.running 17 18))) (fun t =>
      decide (t.lanes.toList.map BitVec.toNat =
        [0x82, 0x61, 0x54, 0x93, 0x2C, 0x51, 0x21, 0xA0, 0xD3, 0x01, 0x36, 0x1A, 0x26, 0x3A, 0x38,
         0x75, 0xF2, 0x0C, 0x7F, 0x89, 0xD3, 0x23, 0xC6, 0x29, 0x7C]) &&
      decide (t.phase = .responding .ok 0)) = true := by decide

/-- R89: an illegal word (RDLANE of index 25) is answered with code 0b10 and rdata 0. -/
theorem test_illegal_word :
    onNext (step (fresh .w32 [⟨0x03000019, 5⟩])) (fun t =>
      decide (t.phase = .responding .illegalCommand 0) && decide (t.modelFault = none)) = true := by decide

/-- The word placed by `withFetchWord` is the one the next step runs. -/
theorem test_withFetchWord :
    onNext (step (State.reset.withFetchWord 32 0x01000000)) (fun t => decide (t.phase = .responding .ok 0)) = true ∧
    onNext (step (State.reset.withFetchWord 32 0x02000018)) (fun t => t.written[24]) = true := by decide

/-! ### Witnesses: states and operands that meet the obligations' hypotheses -/

theorem witness_DecodeAgreesWithEncode :
    (∃ i : Instr, decode 0x02000018 = .ok i) ∧ (Instr.rdlane 24).wf = true ∧
      encode (.rdlane 24) = 0x03000018 := ⟨⟨.wrlane 24, by decide⟩, by decide, by decide⟩

/-- One word at the edge of each of R49's four cases, and the legal words beside them. -/
theorem witness_IllegalWordsAreRefused :
    decode 0x00FFFFFF = .error .unknownOpcode ∧ decode 0x01000100 = .error .permuteReserved ∧
      decode 0x02000020 = .error .laneReserved ∧ decode 0x03000019 = .error .laneIndex ∧
      decode 0x010000FF = .ok (.permute 255) ∧ decode 0x03000018 = .ok (.rdlane 24) := by decide

theorem witness_OpcodeRowsSelectCommands :
    ∃ r ∈ opcodeTable, r.accepts 0x03000018 = true ∧ r.accepts 0x03000019 = false :=
  ⟨⟨"RDLANE", 0xFFFFFFE0, 0x03000000, true⟩, by decide⟩

/-- A value at the edge of each clause of R55. -/
theorem witness_AssemblerLinesGiveTheirWords :
    (assemble (.permute 255)).isSome = true ∧ assemble (.permute 256) = none ∧
      (assemble (.wrlane 24 (2 ^ 64 - 1))).isSome = true ∧ assemble (.wrlane 25 0) = none ∧
      assemble (.wrlane 24 (2 ^ 64)) = none ∧ (assemble (.rdlane 24)).isSome = true ∧ assemble (.rdlane 25) = none := by
  decide

theorem witness_StepRunsTheDecodedCommand :
    ∃ (s : State) (c : Command) (rest : List Command) (i : Instr),
      s.host ≠ .resets ∧ s.phase = .idle ∧ s.commands = c :: rest ∧ decode c.word = .ok i :=
  ⟨fresh .w8 [⟨0x02000000, 1⟩], ⟨0x02000000, 1⟩, [], .wrlane 0, by decide⟩

theorem witness_StepAnswersAnIllegalWord :
    ∃ (s : State) (c : Command) (rest : List Command) (e : Illegal),
      s.host ≠ .resets ∧ s.phase = .idle ∧ s.commands = c :: rest ∧ decode c.word = .error e :=
  ⟨fresh .w8 [⟨0, 1⟩], ⟨0, 1⟩, [], .unknownOpcode, by decide⟩

theorem witness_IdleEngineWaits :
    ∃ s : State, s.host ≠ .resets ∧ s.phase = .idle ∧ s.commands = [] := ⟨State.resetAt .w16, by decide⟩

/-- A round that is not the last and one that is. -/
theorem witness_RoundStepAppliesOneRound :
    (∃ (s : State) (k e : Nat), k < 24 ∧ s.host ≠ .resets ∧ s.phase = .running k e ∧ k + 1 ≠ e) ∧
      ∃ (s : State) (k e : Nat), k < 24 ∧ s.host ≠ .resets ∧ s.phase = .running k e ∧ k + 1 = e :=
  ⟨⟨loaded .w64 (Vector.replicate 25 0) (.running 0 24), 0, 24, by decide⟩,
    ⟨loaded .w64 (Vector.replicate 25 0) (.running 23 24), 23, 24, by decide⟩⟩

theorem witness_TakenResponseReturnsToIdle :
    ∃ (s : State) (code : RspCode) (rdata : DataWord), s.host = .takes ∧ s.phase = .responding code rdata :=
  ⟨(State.resetAt .w8).respond .ok 7, .ok, 7, by decide⟩

theorem witness_UntakenResponseHoldsTheEngine :
    ∃ (s : State) (code : RspCode) (rdata : DataWord),
      s.host = .waits ∧ s.script = [] ∧ s.phase = .responding code rdata :=
  ⟨{ (State.resetAt .w8).respond .ok 7 with host := .waits }, .ok, 7, by decide⟩

theorem witness_BusyEngineAcceptsNothing :
    ∃ s t : State, s.phase ≠ .idle ∧ step s = .next t ∧ s.response = none :=
  ⟨loaded .w8 (Vector.replicate 25 0) (.running 3 18), _, by decide, rfl, by decide⟩

theorem witness_ResetAbandonsTheCommand :
    ∃ s : State, s.host = .resets ∧ s.phase = .running 3 18 ∧ s.unanswered ≠ none :=
  ⟨{ loaded .w8 (Vector.replicate 25 0) (.running 3 18) with host := .resets }, by decide⟩

theorem witness_WrlaneWritesTheTruncatedData : ∃ i : BitVec 5, i.toNat ≤ 24 ∧ i.toNat = 24 := ⟨24, by decide⟩

theorem witness_RdlaneReturnsTheLane :
    ∃ (s : State) (i : BitVec 5) (_ : i.toNat ≤ 24), s.written[i.toNat] = true :=
  ⟨zeroState .w8, 24, by decide, by decide⟩

theorem witness_RdlaneOfAnUnwrittenLane :
    ∃ (s : State) (i : BitVec 5) (_ : i.toNat ≤ 24), s.written[i.toNat] = false :=
  ⟨State.resetAt .w8, 24, by decide, by decide⟩

theorem witness_LaneIndexOutOfRangeIsRefused : ∃ i : BitVec 5, 25 ≤ i.toNat ∧ i.toNat = 25 := ⟨25, by decide⟩

theorem witness_LaneAccessTouchesOneLane :
    (∃ s t : State, exec (.wrlane 24) s = .next t) ∧ ∃ s t : State, exec (.rdlane 0) s = .next t :=
  ⟨⟨State.resetAt .w8, _, rfl⟩, ⟨zeroState .w8, _, rfl⟩⟩

theorem witness_LaneAccessIsIdempotent :
    (∃ s t : State, exec (.wrlane 31) s = .next t) ∧ ∃ s t : State, exec (.rdlane 24) s = .next t :=
  ⟨⟨State.resetAt .w8, _, rfl⟩, ⟨State.resetAt .w8, _, rfl⟩⟩

/-- A WRLANE with other ignored bits, and a PERMUTE with other write data. -/
theorem witness_WriteDataIsIgnored :
    (∃ (s t : State) (d : DataWord), d ≠ s.wdata ∧ d.setWidth s.width.bits = s.wdata.setWidth s.width.bits ∧
        perform 0x02000000 s = .next t) ∧
      ∃ s t : State, (¬ ∃ i, decode 0x01000000 = .ok (.wrlane i)) ∧ perform 0x01000000 s = .next t :=
  ⟨⟨State.resetAt .w8, _, 0x100, by decide, by decide, rfl⟩,
    ⟨State.resetAt .w8, _, by rintro ⟨i, h⟩; revert i; decide, rfl⟩⟩

theorem witness_ReadAfterWriteReturnsTheData :
    ∃ (s : State) (i : BitVec 5) (v d : DataWord) (rest : List Command), i.toNat ≤ 24 ∧ s.phase = .idle ∧
      s.HostTakes ∧ s.commands = ⟨encode (.wrlane i), v⟩ :: ⟨encode (.rdlane i), d⟩ :: rest :=
  ⟨fresh .w8 [⟨encode (.wrlane 24), 0x123⟩, ⟨encode (.rdlane 24), 9⟩], 24, 0x123, 9, [], by decide, rfl,
    ⟨rfl, rfl⟩, rfl⟩

theorem witness_RoundCountTooHighIsRefused :
    ∃ (s : State) (nr : BitVec 8), nrMax s.width < nr.toNat ∧ nr.toNat = nrMax s.width + 1 :=
  ⟨State.resetAt .w8, 19, by decide⟩

/-- The smallest and the largest legal count. -/
theorem witness_PermuteStartsTheRounds :
    (∃ (s : State) (nr : BitVec 8), 1 ≤ nr.toNat ∧ nr.toNat ≤ nrMax s.width ∧
        (∀ j : Fin 25, s.written[j.val] = true) ∧ nr.toNat = 1) ∧
      ∃ (s : State) (nr : BitVec 8), 1 ≤ nr.toNat ∧ nr.toNat ≤ nrMax s.width ∧
        (∀ j : Fin 25, s.written[j.val] = true) ∧ nr.toNat = nrMax s.width :=
  ⟨⟨zeroState .w8, 1, by decide⟩, ⟨zeroState .w64, 24, by decide⟩⟩

/-- V19: lane 24 alone unwritten. -/
theorem witness_PermuteOnUnwrittenLanes :
    ∃ (s : State) (nr : BitVec 8), 1 ≤ nr.toNat ∧ nr.toNat ≤ nrMax s.width ∧
      ∃ j : Fin 25, s.written[j.val] = false :=
  ⟨{ zeroState .w8 with written := (Vector.replicate 25 true).set 24 false }, 1, by decide⟩

theorem witness_PermuteAcceptanceFrame :
    (∃ s t : State, exec (.permute 0) s = .next t) ∧ (∃ s t : State, exec (.permute 255) s = .next t) ∧
      ∃ s t : State, s.allWritten = true ∧ exec (.permute 24) s = .next t :=
  ⟨⟨State.resetAt .w8, _, rfl⟩, ⟨State.resetAt .w8, _, rfl⟩, ⟨zeroState .w64, _, by decide, rfl⟩⟩

theorem witness_ErrorResponsesChangeNothing :
    (∃ s t : State, perform 0x03000019 s = .next t ∧ t.response = some ⟨.illegalCommand, 0⟩) ∧
      ∃ s t : State, perform 0x01000013 s = .next t ∧ t.response = some ⟨.roundCountTooHigh, 0⟩ :=
  ⟨⟨State.resetAt .w8, _, rfl, rfl⟩, ⟨State.resetAt .w8, _, rfl, rfl⟩⟩

/-- A PERMUTE 2 whose host takes no response for a while. -/
theorem witness_PermuteComputesKeccakP :
    ∃ (s : State) (c : Command) (rest : List Command) (nr : BitVec 8), s.phase = .idle ∧ s.commands = c :: rest ∧
      decode c.word = .ok (.permute nr) ∧ nr.toNat ≤ nrMax s.width ∧ s.allWritten = true ∧
      s.NoResetFor (nr.toNat + 1) :=
  ⟨{ (zeroState .w8).present [⟨0x01000002, 0⟩] with host := .waits, script := [.takes, .waits, .resets] },
    ⟨0x01000002, 0⟩, [], 2, by decide, by decide, by decide, by decide, by decide, by
      unfold State.NoResetFor; decide⟩

theorem witness_PermutesRunOneAfterTheOther :
    ∃ (s : State) (a b : BitVec 8) (d d' : DataWord) (rest : List Command), s.phase = .idle ∧ s.HostTakes ∧
      s.allWritten = true ∧ a.toNat ≤ nrMax s.width ∧ b.toNat ≤ nrMax s.width ∧
      s.commands = ⟨encode (.permute a), d⟩ :: ⟨encode (.permute b), d'⟩ :: rest :=
  ⟨(zeroState .w16).present [⟨encode (.permute 1), 0⟩, ⟨encode (.permute 20), 0⟩], 1, 20, 0, 0, [], by decide,
    ⟨rfl, rfl⟩, by decide, by decide, by decide, rfl⟩

theorem witness_ReadAfterPermuteReturnsThePermutedLane :
    ∃ (s : State) (nr : BitVec 8) (i : BitVec 5) (d d' : DataWord) (rest : List Command), i.toNat ≤ 24 ∧
      s.phase = .idle ∧ s.HostTakes ∧ s.allWritten = true ∧ nr.toNat ≤ nrMax s.width ∧
      s.commands = ⟨encode (.permute nr), d⟩ :: ⟨encode (.rdlane i), d'⟩ :: rest :=
  ⟨(zeroState .w32).present [⟨encode (.permute 22), 0⟩, ⟨encode (.rdlane 24), 0⟩], 22, 24, 0, 0, [], by decide,
    by decide, ⟨rfl, rfl⟩, by decide, by decide, rfl⟩

/-- The first and the last n of the law, and a split in the middle. -/
theorem witness_PartialRoundLaw :
    (0 < nrMax .w8 ∧ nrMax .w8 - 0 - 1 < 24) ∧ (17 < nrMax .w8 ∧ nrMax .w8 - 17 - 1 < 24) ∧
      ∃ nr m, m ≤ nr ∧ nr ≤ nrMax .w64 ∧ m = 7 := ⟨by decide, by decide, 24, 7, by decide⟩

/-- The ceiling itself and the count above it, at the narrowest and the widest width. -/
theorem witness_WindowIsTheTrailingSlice :
    nrMax .w8 < (19 : BitVec 8).toNat ∧ (18 : BitVec 8).toNat ≤ nrMax .w8 ∧
      nrMax .w64 < (25 : BitVec 8).toNat ∧ (24 : BitVec 8).toNat ≤ nrMax .w64 := by decide

theorem witness_RoundIsInvertible : Machine.round (single 0 1#8) 1#8 ≠ Machine.round (single 1 1#8) 1#8 := by decide

theorem witness_ChiIsInjective : ∃ A B : Lanes 8, chi A = chi B := ⟨single 3 7#8, single 3 7#8, rfl⟩

theorem witness_RotationIsCircular : ∃ j w : Nat, j < w ∧ w = 8 := ⟨7, 8, by decide⟩

theorem witness_ChainTableFollowsTheMapping :
    (∃ j : Fin 25, j ≠ 0 ∧ j = 24) ∧ ∃ i : Fin 24, i.val ≠ 0 ∧ i = 23 := ⟨⟨24, by decide⟩, ⟨23, by decide⟩⟩

/-- A running state in the invariant, and its step. -/
theorem witness_StepKeepsTheInvariant : ∃ s t : State, s.Inv ∧ s.phase = .running 17 18 ∧ step s = .next t :=
  ⟨loaded .w8 (Vector.replicate 25 0) (.running 17 18), _,
    ⟨⟨by decide, by decide, .inl (by decide), by decide⟩, by intro r hr; cases hr⟩, rfl, rfl⟩

/-- An active-low, asynchronous instance under a reset; its rst level is low. -/
theorem witness_ResetKindIsNotObservable :
    ∃ (s t : State) (kind : ResetKind) (n : Nat), kind ≠ s.resetKind ∧ s.rst = false ∧ s.host = .resets ∧
      runs n s = .next t ∧ n = 1 :=
  ⟨{ State.resetAt .w16 ⟨.activeLow, .asynchronous⟩ with host := .resets }, _, ⟨.activeHigh, .synchronous⟩, 1,
    by decide, by decide, rfl, rfl, rfl⟩

theorem witness_NoStepChangesTheParameters : ∃ s t : State, step s = .next t := ⟨State.resetAt .w16, _, rfl⟩

theorem witness_ModelFaultIsNeverCleared :
    ∃ (s t : State) (n : Nat) (f : Fault), s.modelFault = some f ∧ runs n s = .next t ∧ n = 1 :=
  ⟨{ State.resetAt .w8 with modelFault := some .unwrittenLane, host := .resets }, _, 1, .unwrittenLane, rfl, rfl, rfl⟩

/-- The lanes of width 8 that differ in every bit from the free values after r resets. -/
def againstFree (r : Nat) : Lanes 8 := Vector.ofFn fun j => ~~~ trunc 8 (Config.unwrittenLane r j.val)

/-- A lane and its complement differ, whatever the free value. -/
theorem zext64_ne_not (v : BitVec 8) : zext64 v ≠ zext64 (~~~ v) := by revert v; decide

/-- One witness for each disjunct: a WRLANE that changes lane 3, a round step that changes lane 0, a reset and a PERMUTE
of unwritten lanes that change lane 24. -/
theorem witness_LanesChangeOnlyByCommands :
    (∃ s t : State, step s = .next t ∧ t.lane64 3 ≠ s.lane64 3 ∧ s.phase = .idle) ∧
      (∃ s t : State, step s = .next t ∧ t.lane64 0 ≠ s.lane64 0 ∧ s.phase = .running 17 18) ∧
      (∃ s t : State, step s = .next t ∧ t.lane64 24 ≠ s.lane64 24 ∧ s.host = .resets) ∧
      ∃ s t : State, step s = .next t ∧ t.lane64 24 ≠ s.lane64 24 ∧ s.phase = .idle ∧
        s.commands = [⟨0x01000001, 0⟩] :=
  ⟨⟨fresh .w8 [⟨0x02000003, 5⟩], _, rfl, by decide, rfl⟩,
    ⟨loaded .w8 (Vector.replicate 25 0) (.running 17 18), _, rfl, by decide, rfl⟩,
    ⟨{ State.resetAt .w8 with lanes := againstFree 1, host := .resets }, _, rfl, zext64_ne_not _, rfl⟩,
    ⟨{ fresh .w8 [⟨0x01000001, 0⟩] with lanes := againstFree 0 }, _, rfl, zext64_ne_not _, rfl, rfl⟩⟩

/-- One legal and one illegal command. -/
theorem witness_EveryCommandGetsOneResponse :
    ∃ s : State, s.phase = .idle ∧ s.HostTakes ∧ s.commands = [⟨0x02000003, 5⟩, ⟨0xFFFFFFFF, 0⟩] :=
  ⟨fresh .w8 [⟨0x02000003, 5⟩, ⟨0xFFFFFFFF, 0⟩], rfl, ⟨rfl, rfl⟩, rfl⟩

theorem witness_LdstateLoadsTheWholeState :
    ∃ (s : State) (v : Vector DataWord 25) (rest : List Command), s.phase = .idle ∧ s.HostTakes ∧
      s.commands = assembleAll (Pseudo.expand s.width (.ldstate v)) ++ rest :=
  ⟨fresh .w32 (assembleAll (Pseudo.expand .w32 (.ldstate (Vector.replicate 25 7)))), Vector.replicate 25 7, [], rfl,
    ⟨rfl, rfl⟩, by simp [fresh]⟩

theorem witness_StstateReadsTheWholeState :
    ∃ (s : State) (rest : List Command), s.phase = .idle ∧ s.HostTakes ∧ s.allWritten = true ∧
      s.commands = assembleAll (Pseudo.expand s.width .ststate) ++ rest :=
  ⟨(zeroState .w8).present (assembleAll (Pseudo.expand .w8 .ststate)), [], rfl, ⟨rfl, rfl⟩, by decide, by
    simp [zeroState, loaded]⟩

end Sys2Proof.Tests
end

/-! ## The step, one equation per case, and the engine's parameters (00_scope.md R5, R7, R9) -/

section

namespace Sys2Proof.Machine

/-! ### What each command answers, one equation per case -/

/-- A round count above the ceiling is refused (R76). -/
theorem exec_permute_of_gt {s : State} {nr : BitVec 8} (h : nrMax s.width < nr.toNat) :
    exec (.permute nr) s = .next s.raiseRoundCountTooHigh := by
  simp [exec, execPermute, windowMap, h]

/-- No rounds: the response alone (R75). -/
theorem exec_permute_zero (s : State) : exec (.permute 0) s = .next (s.respond .ok 0) := by
  simp [exec, execPermute, windowMap]

/-- A legal count of at least one round reads the lanes and starts the rounds (R72). -/
theorem exec_permute_of_le {s : State} {nr : BitVec 8} (h0 : nr ≠ 0) (h : nr.toNat ≤ nrMax s.width) :
    exec (.permute nr) s =
      .next (s.noteReadAll.startRounds ⟨nrMax s.width - nr.toNat, nrMax s.width⟩) := by
  simp only [exec, execPermute, windowMap, gt_iff_lt, if_neg (Nat.not_lt.mpr h), if_neg h0]

/-- WRLANE of an index that names no lane is refused (R27). -/
theorem exec_wrlane_of_ge {s : State} {i : BitVec 5} (h : 25 ≤ i.toNat) :
    exec (.wrlane i) s = .next s.raiseIllegalCommand := by
  simp only [exec, execWrlane, laneIndex_of_ge h]

/-- WRLANE writes the lane its operand names (R82). -/
theorem exec_wrlane_of_eq {s : State} {i : BitVec 5} {j : Fin 25} (h : i.toNat = j.val) :
    exec (.wrlane i) s = .next ((s.writeLane j (trunc s.width.bits s.wdata)).respond .ok 0) := by
  simp only [exec, execWrlane, laneIndex_eq_some.mpr h]

/-- RDLANE of an index that names no lane is refused (R27). -/
theorem exec_rdlane_of_ge {s : State} {i : BitVec 5} (h : 25 ≤ i.toNat) :
    exec (.rdlane i) s = .next s.raiseIllegalCommand := by
  simp only [exec, execRdlane, laneIndex_of_ge h]

/-- RDLANE answers with the lane its operand names (R84, R85). -/
theorem exec_rdlane_of_eq {s : State} {i : BitVec 5} {j : Fin 25} (h : i.toNat = j.val) :
    exec (.rdlane i) s = .next ((s.noteRead j).respond .ok (zext64 (s.readLane j))) := by
  simp only [exec, execRdlane, laneIndex_eq_some.mpr h]

/-- A legal word is executed (R48). -/
theorem perform_of_ok {cmd : CmdWord} {i : Instr} (h : decode cmd = .ok i) (s : State) :
    perform cmd s = exec i s := by
  simp only [perform, h]

/-- An illegal word gets its error response (R49). -/
theorem perform_of_error {cmd : CmdWord} {e : Illegal} (h : decode cmd = .error e) (s : State) :
    perform cmd s = .next s.raiseIllegalCommand := by
  simp only [perform, h]

/-! ### What a step does, one equation per case of `step_cases` -/

variable {s t : State}

/-- A reset takes effect whatever the phase (R102). -/
theorem step_of_resets (h : s.host = .resets) : step s = .next s.hostTurn.resetEngine := by
  simp [step, State.resetAsserted, h]

/-- With no command the engine waits in Idle (R101). -/
theorem step_of_idle_nil (hr : s.host ≠ .resets) (hp : s.phase = .idle) (hc : s.commands = []) :
    step s = .next s.hostTurn := by
  simp [step, State.resetAsserted, hr, hp, hc]

/-- In Idle the presented command is accepted and performed (R53). -/
theorem step_of_idle_cons {c : Command} {rest : List Command} (hr : s.host ≠ .resets) (hp : s.phase = .idle)
    (hc : s.commands = c :: rest) : step s = perform c.word (s.hostTurn.accept c rest) := by
  simp [step, State.resetAsserted, hr, hp, hc]

/-- In Running a step is one round (R73). -/
theorem step_of_running {k e : Nat} (hr : s.host ≠ .resets) (hp : s.phase = .running k e) :
    step s = .next (s.hostTurn.roundStep k e) := by
  simp [step, State.resetAsserted, hr, hp]

/-- A response is taken by a host that takes (R53). -/
theorem step_of_takes {code : RspCode} {rdata : DataWord} (hh : s.host = .takes)
    (hp : s.phase = .responding code rdata) : step s = .next (s.hostTurn.takeResponse code rdata) := by
  simp [step, State.resetAsserted, State.rspReady, hh, hp]

/-- A response stays while the host waits (R107). -/
theorem step_of_waits {code : RspCode} {rdata : DataWord} (hh : s.host = .waits)
    (hp : s.phase = .responding code rdata) : step s = .next s.hostTurn := by
  simp [step, State.resetAsserted, State.rspReady, hh, hp]

/-- A run of n + 1 steps that gives a state is a step and a run of n steps. -/
theorem runs_succ_cases {n : Nat} (h : runs (n + 1) s = .next t) : ∃ u, step s = .next u ∧ runs n u = .next t := by
  match hs : step s with
  | .next u => exact ⟨u, rfl, by rwa [runs_succ_of_step hs] at h⟩
  | .fault r => simp [runs, Host.Core.run, show core.step s = step s from rfl, hs] at h
  | .refused r => simp [runs, Host.Core.run, show core.step s = step s from rfl, hs] at h

/-- A map of states that commutes with every step commutes with every run. -/
theorem runs_map {f : State → State} (hf : ∀ s t, step s = .next t → step (f s) = .next (f t)) {n : Nat}
    (h : runs n s = .next t) : runs n (f s) = .next (f t) := by
  induction n generalizing s with
  | zero => cases h; rfl
  | succ n ih =>
    obtain ⟨u, hstep, hrun⟩ := runs_succ_cases h
    rw [runs_succ_of_step (hf s u hstep)]
    exact ih hrun

/-! ### No operation writes W or RESET_KIND -/

/-- The two states belong to one engine: the same lane width and the same RESET_KIND. -/
def State.SameParameters (s t : State) : Prop := t.width = s.width ∧ t.resetKind = s.resetKind

/-- No command writes a parameter (R22). -/
theorem exec_sameParameters {i : Instr} (h : exec i s = .next t) : s.SameParameters t := by
  cases i with
  | permute nr =>
    obtain ⟨-, rfl⟩ | ⟨-, rfl⟩ | ⟨-, -, rfl⟩ := execPermute_cases h <;> exact ⟨rfl, rfl⟩
  | wrlane i =>
    obtain ⟨-, rfl⟩ | ⟨j, -, rfl⟩ := execWrlane_cases h <;> exact ⟨rfl, rfl⟩
  | rdlane i =>
    obtain ⟨-, rfl⟩ | ⟨j, -, rfl⟩ := execRdlane_cases h <;> exact ⟨rfl, rfl⟩

/-- No command word, legal or illegal, writes a parameter (R22). -/
theorem perform_sameParameters {cmd : CmdWord} (h : perform cmd s = .next t) : s.SameParameters t := by
  obtain ⟨e, -, rfl⟩ | ⟨i, -, hexec⟩ := perform_cases h
  · exact ⟨rfl, rfl⟩
  · exact exec_sameParameters hexec

/-- Each case of a step is an operation whose frame includes both parameters (R5, R102). -/
theorem step_sameParameters (h : step s = .next t) : s.SameParameters t := by
  obtain ⟨-, rfl⟩ | ⟨-, -, -, rfl⟩ | ⟨-, -, c, rest, -, hperform⟩ | ⟨-, k, e, -, rfl⟩ |
    ⟨-, code, rdata, -, rfl⟩ | ⟨-, code, rdata, -, rfl⟩ := step_cases h
  case inr.inr.inl => exact perform_sameParameters (s := s.hostTurn.accept c rest) hperform
  all_goals exact ⟨rfl, rfl⟩

/-- Settles O52, by the cases of a step. -/
theorem noStepChangesTheParameters : Obligations.NoStepChangesTheParameters :=
  fun _ _ h => step_sameParameters h

/-! ### RESET_KIND decides nothing but the level on rst -/

/-- The same state on an engine with another RESET_KIND. -/
def State.withResetKind (kind : ResetKind) (s : State) : State := { s with resetKind := kind }

variable {kind : ResetKind}

/-- No command reads RESET_KIND. -/
theorem exec_withResetKind {i : Instr} (h : exec i s = .next t) :
    exec i (s.withResetKind kind) = .next (t.withResetKind kind) := by
  cases i with
  | permute nr =>
    obtain ⟨hgt, rfl⟩ | ⟨rfl, rfl⟩ | ⟨h0, hle, rfl⟩ := execPermute_cases h
    · exact exec_permute_of_gt hgt
    · exact exec_permute_zero _
    · exact exec_permute_of_le h0 hle
  | wrlane i =>
    obtain ⟨hge, rfl⟩ | ⟨j, hj, rfl⟩ := execWrlane_cases h
    · exact exec_wrlane_of_ge hge
    · exact exec_wrlane_of_eq hj
  | rdlane i =>
    obtain ⟨hge, rfl⟩ | ⟨j, hj, rfl⟩ := execRdlane_cases h
    · exact exec_rdlane_of_ge hge
    · exact exec_rdlane_of_eq hj

/-- The decoder sees the word alone, and no command reads RESET_KIND (R48). -/
theorem perform_withResetKind {cmd : CmdWord} (h : perform cmd s = .next t) :
    perform cmd (s.withResetKind kind) = .next (t.withResetKind kind) := by
  obtain ⟨e, hd, rfl⟩ | ⟨i, hd, hexec⟩ := perform_cases h
  · exact perform_of_error hd _
  · exact (perform_of_ok hd _).trans (exec_withResetKind hexec)

/-- The step on the other engine is the same step: no case of it reads RESET_KIND (R102). -/
theorem step_withResetKind (h : step s = .next t) :
    step (s.withResetKind kind) = .next (t.withResetKind kind) := by
  obtain ⟨hr, rfl⟩ | ⟨hr, hp, hc, rfl⟩ | ⟨hr, hp, c, rest, hc, hperform⟩ | ⟨hr, k, e, hp, rfl⟩ |
    ⟨hh, code, rdata, hp, rfl⟩ | ⟨hh, code, rdata, hp, rfl⟩ := step_cases h
  · exact step_of_resets hr
  · exact step_of_idle_nil hr hp hc
  · exact (step_of_idle_cons (s := s.withResetKind kind) hr hp hc).trans
      (perform_withResetKind (kind := kind) hperform)
  · exact step_of_running hr hp
  · exact step_of_takes hh hp
  · exact step_of_waits hh hp

/-- What a run lets one observe does not include RESET_KIND (R115). -/
theorem State.observation_withResetKind : (s.withResetKind kind).observation = s.observation := rfl

/-- Settles O53: changing RESET_KIND commutes with every step, hence with every run. -/
theorem resetKindIsNotObservable : Obligations.ResetKindIsNotObservable :=
  fun _ _ kind _ h => ⟨runs_map (f := State.withResetKind kind) (fun _ _ => step_withResetKind) h,
    State.observation_withResetKind⟩

/-! ### Rotation -/

/-- A rotation takes bit j to bit (j + n) mod W (R9): a bit that does not pass the top moves up by n mod W, and a
bit that passes it re-enters at the bottom. -/
theorem getLsbD_rotl_add_mod {w : Nat} (v : BitVec w) (n : Nat) {j : Nat} (hj : j < w) :
    (rotl v n).getLsbD ((j + n) % w) = v.getLsbD j := by
  have hm : n % w < w := Nat.mod_lt _ (by omega)
  rw [rotl_eq_rotateLeft, BitVec.getLsbD_rotateLeft, Nat.add_mod, Nat.mod_eq_of_lt hj]
  by_cases hwrap : j + n % w < w
  · rw [Nat.mod_eq_of_lt hwrap]
    simp [hwrap]
  · have hmod : (j + n % w) % w = j + n % w - w := by
      rw [Nat.mod_eq_sub_mod (by omega), Nat.mod_eq_of_lt (by omega)]
    have hback : w - n % w + (j + n % w - w) = j := by omega
    have hlow : j + n % w - w < n % w := by omega
    simp [hmod, hlow, hback]

/-- Rotation by n is rotation by n mod W (R9). -/
theorem rotl_mod {w : Nat} (v : BitVec w) (n : Nat) : rotl v (n % w) = rotl v n := by
  simp only [rotl, Nat.mod_mod]

/-- Settles O46, by the two laws of R9 above. -/
theorem rotationIsCircular : Obligations.RotationIsCircular :=
  fun _ v n => ⟨fun _ hj => getLsbD_rotl_add_mod v n hj, (rotl_mod v n).symm⟩

end Sys2Proof.Machine
end

/-! ## The invariant, what changes a lane, the round step and the state after reset (10_state.md) -/

section

namespace Sys2Proof.Machine

variable {s t : State}

/-! ### Sound responses (30_encoding.md R54) -/

/-- A response without data is sound, whatever its code. -/
theorem Response.sound_zero (w : Width) (code : RspCode) : Response.Sound w ⟨code, 0⟩ :=
  ⟨fun _ => rfl, Nat.two_pow_pos _⟩

/-- A zero-extended lane fits the lane width. -/
theorem Response.sound_zext64 (w : Width) (v : BitVec w.bits) : Response.Sound w ⟨.ok, zext64 v⟩ := by
  refine ⟨fun h => absurd rfl h, ?_⟩
  calc (zext64 v).toNat = v.toNat % 2 ^ 64 := BitVec.toNat_setWidth 64 v
    _ ≤ v.toNat := Nat.mod_le _ _
    _ < 2 ^ w.bits := v.isLt

/-! ### When the phase an operation leaves is sound (R18) -/

theorem State.phaseSound_of_idle (h : s.phase = .idle) : s.PhaseSound := by simp [State.PhaseSound, h]

theorem State.phaseSound_iff_of_running {k e : Nat} (h : s.phase = .running k e) :
    s.PhaseSound ↔ k < e ∧ e = nrMax s.width ∧ (s.allWritten = true ∨ s.modelFault = some .unwrittenLane) ∧
      s.unanswered ≠ none := by
  simp [State.PhaseSound, h]

theorem State.phaseSound_iff_of_responding {code : RspCode} {rdata : DataWord}
    (h : s.phase = .responding code rdata) :
    s.PhaseSound ↔ Response.Sound s.width ⟨code, rdata⟩ ∧ s.unanswered ≠ none := by
  simp [State.PhaseSound, h]

/-- The read of all lanes finds them written or records the model fault (R80). -/
theorem State.noteReadAll_allWritten_or_modelFault (s : State) :
    s.noteReadAll.allWritten = true ∨ s.noteReadAll.modelFault = some .unwrittenLane := by
  by_cases ha : s.allWritten = true
  · exact .inl ha
  · simp [ha]

/-- Every command awaiting its response leaves a sound phase: the answers are 0 or a lane, and the rounds of a PERMUTE
start below the ceiling on lanes that were read (R72, R82, R84). -/
theorem exec_phaseSound {i : Instr} (hu : s.unanswered ≠ none) (h : exec i s = .next t) : t.PhaseSound := by
  cases i with
  | permute nr =>
    obtain ⟨-, rfl⟩ | ⟨-, rfl⟩ | ⟨h0, hle, rfl⟩ := execPermute_cases h
    · exact ⟨Response.sound_zero _ _, hu⟩
    · exact ⟨Response.sound_zero _ _, hu⟩
    · have hnr : nr.toNat ≠ 0 := fun hz => h0 (BitVec.eq_of_toNat_eq hz)
      exact ⟨show nrMax s.width - nr.toNat < nrMax s.width by omega, rfl,
        s.noteReadAll_allWritten_or_modelFault, hu⟩
  | wrlane i =>
    obtain ⟨-, rfl⟩ | ⟨j, -, rfl⟩ := execWrlane_cases h <;> exact ⟨Response.sound_zero _ _, hu⟩
  | rdlane i =>
    obtain ⟨-, rfl⟩ | ⟨j, -, rfl⟩ := execRdlane_cases h
    · exact ⟨Response.sound_zero _ _, hu⟩
    · exact ⟨Response.sound_zext64 _ _, hu⟩

/-- No command hands the host a response: taking one is a step of its own (R53). -/
theorem exec_responses {i : Instr} (h : exec i s = .next t) : t.responses = s.responses := by
  cases i with
  | permute nr =>
    obtain ⟨-, rfl⟩ | ⟨-, rfl⟩ | ⟨-, -, rfl⟩ := execPermute_cases h <;> rfl
  | wrlane i =>
    obtain ⟨-, rfl⟩ | ⟨j, -, rfl⟩ := execWrlane_cases h <;> rfl
  | rdlane i =>
    obtain ⟨-, rfl⟩ | ⟨j, -, rfl⟩ := execRdlane_cases h <;> rfl

/-! ### Each operation of a step keeps the invariant -/

/-- The invariant does not speak of the host's moves. -/
theorem State.Inv.hostTurn (h : s.Inv) : s.hostTurn.Inv := h

/-- A reset leaves Idle and the responses already taken (R102). -/
theorem State.Inv.resetEngine (h : s.Inv) : s.resetEngine.Inv := ⟨State.phaseSound_of_idle rfl, h.2⟩

/-- An accepted command awaits its response, so whatever it leaves is sound (R53). -/
theorem State.Inv.perform_accept {c : Command} {rest : List Command} (h : s.Inv)
    (hperform : perform c.word (s.accept c rest) = .next t) : t.Inv := by
  obtain ⟨-, hresponses⟩ := h
  have hu : (s.accept c rest).unanswered ≠ none := Option.some_ne_none c
  obtain ⟨e, -, rfl⟩ | ⟨i, -, hexec⟩ := perform_cases hperform
  · exact ⟨⟨Response.sound_zero _ _, hu⟩, hresponses⟩
  · obtain ⟨hwidth, -⟩ := exec_sameParameters hexec
    refine ⟨exec_phaseSound hu hexec, ?_⟩
    rw [exec_responses hexec, hwidth]
    exact hresponses

/-- A round below the last one stays below the ceiling; the last one answers RSP_OK (R73). -/
theorem State.Inv.roundStep {k e : Nat} (h : s.Inv) (hp : s.phase = .running k e) : (s.roundStep k e).Inv := by
  obtain ⟨hphase, hresponses⟩ := h
  obtain ⟨hlt, hceiling, hread, hu⟩ := (State.phaseSound_iff_of_running hp).mp hphase
  refine ⟨?_, hresponses⟩
  by_cases hlast : k + 1 = e
  · rw [State.phaseSound_iff_of_responding (code := .ok) (rdata := 0) (by simp [hlast])]
    exact ⟨Response.sound_zero _ _, hu⟩
  · rw [State.phaseSound_iff_of_running (k := k + 1) (e := e) (by simp [hlast])]
    refine ⟨by omega, hceiling, ?_, hu⟩
    simpa [State.allWritten, hlast] using hread

/-- The taken response is the sound one that was presented (R53). -/
theorem State.Inv.takeResponse {code : RspCode} {rdata : DataWord} (h : s.Inv)
    (hp : s.phase = .responding code rdata) : (s.takeResponse code rdata).Inv := by
  obtain ⟨hphase, hresponses⟩ := h
  obtain ⟨hsound, -⟩ := (State.phaseSound_iff_of_responding hp).mp hphase
  refine ⟨State.phaseSound_of_idle rfl, fun r hr => ?_⟩
  obtain hr | hr := List.mem_append.mp hr
  · exact hresponses r hr
  · rw [List.mem_singleton.mp hr]
    exact hsound

/-- Settles O50, by the cases of a step: each is an operation that keeps the invariant. -/
theorem stepKeepsTheInvariant : Obligations.StepKeepsTheInvariant := by
  intro s t hinv hstep
  obtain ⟨-, rfl⟩ | ⟨-, -, -, rfl⟩ | ⟨-, -, c, rest, -, hperform⟩ | ⟨-, k, e, hp, rfl⟩ |
    ⟨-, code, rdata, hp, rfl⟩ | ⟨-, code, rdata, -, rfl⟩ := step_cases hstep
  · exact hinv.hostTurn.resetEngine
  · exact hinv.hostTurn
  · exact hinv.hostTurn.perform_accept hperform
  · exact hinv.hostTurn.roundStep hp
  · exact hinv.hostTurn.takeResponse hp
  · exact hinv.hostTurn

/-- Settles O51: PHASE is Idle and no response has been taken. -/
theorem resetMeetsTheInvariant : Obligations.ResetMeetsTheInvariant :=
  fun _ _ => ⟨State.phaseSound_of_idle rfl, fun _ hr => absurd hr List.not_mem_nil⟩

/-! ### What changes a lane (R15, R101) -/

/-- The commands that may change lane j on acceptance: a WRLANE of it, and a legal PERMUTE of at least one round that
reads it unwritten. -/
def State.MayChangeLane (s : State) (i : Instr) (j : Fin 25) : Prop :=
  (∃ l, i = .wrlane l ∧ l.toNat = j.val) ∨
    ∃ nr, i = .permute nr ∧ 1 ≤ nr.toNat ∧ nr.toNat ≤ nrMax s.width ∧ s.written[j.val] = false

/-- A command changes no lane but those it may change (R82, R84, R80). -/
theorem exec_lane64_ne {i : Instr} {j : Fin 25} (h : exec i s = .next t) (hne : t.lane64 j ≠ s.lane64 j) :
    s.MayChangeLane i j := by
  cases i with
  | permute nr =>
    obtain ⟨-, rfl⟩ | ⟨-, rfl⟩ | ⟨h0, hle, rfl⟩ := execPermute_cases h
    · exact absurd rfl hne
    · exact absurd rfl hne
    · have hnr : nr.toNat ≠ 0 := fun hz => h0 (BitVec.eq_of_toNat_eq hz)
      have hunwritten : s.written[j.val] ≠ true := fun hw => hne (s.lane64_noteReadAll_of_written j hw)
      exact .inr ⟨nr, rfl, Nat.one_le_iff_ne_zero.mpr hnr, hle, Bool.eq_false_iff.mpr hunwritten⟩
  | wrlane i =>
    obtain ⟨-, rfl⟩ | ⟨k, hk, rfl⟩ := execWrlane_cases h
    · exact absurd rfl hne
    · by_cases hkj : k = j
      · exact .inl ⟨i, rfl, hkj ▸ hk⟩
      · exact absurd (s.lane64_writeLane_of_ne j _ hkj) hne
  | rdlane i =>
    obtain ⟨-, rfl⟩ | ⟨k, -, rfl⟩ := execRdlane_cases h <;> exact absurd rfl hne

/-- An illegal word changes no lane, and a legal one what its command may change (R49). -/
theorem perform_lane64_ne {cmd : CmdWord} {j : Fin 25} (h : perform cmd s = .next t)
    (hne : t.lane64 j ≠ s.lane64 j) : ∃ i, decode cmd = .ok i ∧ s.MayChangeLane i j := by
  obtain ⟨e, -, rfl⟩ | ⟨i, hd, hexec⟩ := perform_cases h
  · exact absurd rfl hne
  · exact ⟨i, hd, exec_lane64_ne hexec hne⟩

/-- Settles O55, by the cases of a step: waiting and taking a response change no lane, and an accepted word changes
only what its command may change. -/
theorem lanesChangeOnlyByCommands : Obligations.LanesChangeOnlyByCommands := by
  intro s t j hstep hne
  obtain ⟨hr, -⟩ | ⟨-, -, -, rfl⟩ | ⟨-, hp, c, rest, hc, hperform⟩ | ⟨-, k, e, hp, -⟩ |
    ⟨-, code, rdata, -, rfl⟩ | ⟨-, code, rdata, -, rfl⟩ := step_cases hstep
  · exact .inl hr
  · exact absurd rfl hne
  · obtain ⟨i, hd, ⟨l, rfl, hl⟩ | ⟨nr, rfl, hnr⟩⟩ := perform_lane64_ne (s := s.hostTurn.accept c rest) hperform hne
    · exact .inr (.inr ⟨c, rest, hp, hc, .inl ⟨l, hd, hl⟩⟩)
    · exact .inr (.inr ⟨c, rest, hp, hc, .inr ⟨nr, hd, hnr⟩⟩)
  · exact .inr (.inl ⟨k, e, hp⟩)
  · exact absurd rfl hne
  · exact absurd rfl hne

/-! ### One round, and the state after reset -/

/-- Settles O10: in Running a step is the round step, and RC[k] exists. -/
theorem roundStepAppliesOneRound : Obligations.RoundStepAppliesOneRound := by
  intro s k e hk hr hp
  rw [step_of_running hr hp, State.roundStep, roundAt_of_lt hk]
  rfl

/-- Settles O15: WR is 25 times false, and every other field of the reset state stands in its definition. -/
theorem stateAfterReset : Obligations.StateAfterReset := by
  refine fun w kind => ⟨rfl, rfl, rfl, rfl, rfl, fun j => ?_⟩
  rw [State.resetAt_written, Vector.getElem_replicate]

end Sys2Proof.Machine
end

/-! ## Commands as transactions, the lane access commands and the tables (20_memory.md) -/

section

namespace Sys2Proof.Machine

variable {s t : State}

/-! ### The rounds of a PERMUTE in one run (41_permute.md R73, R74) -/

/-- What n round steps from index k, the last of them the last round, leave of the engine (R73). -/
def State.finishRounds (s : State) (k n : Nat) : State :=
  { s with
    lanes := roundsFrom k n s.lanes
    written := Vector.replicate 25 true
    phase := .responding .ok 0 }

/-- A last round is a round step that finishes. -/
theorem State.roundStep_last (s : State) (k : Nat) : s.roundStep k (k + 1) = s.finishRounds k 1 := by
  simp [State.roundStep, State.finishRounds]

/-- The rounds after the first one overwrite what it leaves of WR and PHASE. -/
theorem State.finishRounds_roundStep (s : State) (k e n : Nat) :
    (s.roundStep k e).finishRounds (k + 1) n = s.finishRounds k (n + 1) := rfl

/-- A round step reads nothing the host drives. -/
theorem State.hostTurns_roundStep (s : State) (k e n : Nat) :
    (s.roundStep k e).hostTurns n = (s.hostTurns n).roundStep k e := by
  induction n generalizing s with
  | zero => rfl
  | succ n ih => exact ih s.hostTurn

/-- A round step leaves what the host drives from then on. -/
theorem State.moveAt_roundStep (s : State) (k e n : Nat) : (s.roundStep k e).moveAt n = s.moveAt n := by
  simp only [State.moveAt, State.hostTurns_roundStep, State.roundStep_host]

/-- No reset for n + 1 steps: none now, and none for n steps after it. -/
theorem State.noResetFor_succ {n : Nat} (h : s.NoResetFor (n + 1)) : s.host ≠ .resets ∧ s.hostTurn.NoResetFor n :=
  ⟨h 0 (Nat.succ_pos n), fun j hj => h (j + 1) (Nat.succ_lt_succ hj)⟩

/-- A run of n + 1 rounds up to the end of the window does the rounds and presents RSP_OK, whatever the host drives
meanwhile but a reset (R73). -/
theorem runs_of_running {k e n : Nat} (hp : s.phase = .running k e) (he : e = k + (n + 1))
    (hr : s.NoResetFor (n + 1)) : runs (n + 1) s = .next ((s.hostTurns (n + 1)).finishRounds k (n + 1)) := by
  induction n generalizing s k with
  | zero =>
    obtain ⟨hnow, -⟩ := State.noResetFor_succ hr
    rw [runs_succ_of_step (step_of_running hnow hp), he, State.roundStep_last]
    rfl
  | succ n ih =>
    obtain ⟨hnow, hlater⟩ := State.noResetFor_succ hr
    have hnext : (s.hostTurn.roundStep k e).NoResetFor (n + 1) := fun j hj => by
      rw [State.moveAt_roundStep]
      exact hlater j hj
    have hnot : k + 1 ≠ e := by omega
    have hp' : (s.hostTurn.roundStep k e).phase = .running (k + 1) e := by simp [hnot]
    rw [runs_succ_of_step (step_of_running hnow hp), ih hp' (by omega) hnext, State.hostTurns_roundStep,
      State.finishRounds_roundStep]
    rfl

/-! ### A host that takes its responses -/

/-- Such a host drives the same for ever. -/
theorem State.HostTakes.hostTurns_eq (h : s.HostTakes) (n : Nat) : s.hostTurns n = s := by
  induction n with
  | zero => rfl
  | succ n ih => rw [State.hostTurns, h.hostTurn_eq, ih]

theorem State.HostTakes.host_ne_resets (h : s.HostTakes) : s.host ≠ .resets := by simp [h.1]

/-- Such a host never resets. -/
theorem State.HostTakes.noResetFor (h : s.HostTakes) (n : Nat) : s.NoResetFor n := fun j _ => by
  rw [State.moveAt, h.hostTurns_eq]
  exact h.host_ne_resets

/-- In Idle the presented command is accepted, and the host drives what it drove (R53). -/
theorem State.HostTakes.step_of_idle_cons {c : Command} {rest : List Command} (h : s.HostTakes)
    (hp : s.phase = .idle) (hc : s.commands = c :: rest) : step s = perform c.word (s.accept c rest) := by
  rw [Machine.step_of_idle_cons h.host_ne_resets hp hc, h.hostTurn_eq]

/-- No command awaits its response. -/
def State.settled (s : State) : State := { s with unanswered := none }

/-- Responding from Idle and having the response taken is the answer of the atomic form (R74). -/
theorem State.takeResponse_respond {code : RspCode} {rdata : DataWord} (hp : s.phase = .idle) :
    (s.respond code rdata).takeResponse code rdata = s.settled.answer code rdata := by
  cases s
  cases hp
  rfl

/-- The response presented from Idle is taken at the next step (R53). -/
theorem State.HostTakes.runs_respond {code : RspCode} {rdata : DataWord} (h : s.HostTakes) (hp : s.phase = .idle) :
    runs 1 (s.respond code rdata) = .next (s.settled.answer code rdata) := by
  have hh : (s.respond code rdata).HostTakes := h
  rw [runs_succ_of_step (step_of_takes hh.1 rfl), hh.hostTurn_eq, State.takeResponse_respond hp, runs_zero]

/-! ### The cases of a command, and its atomic form in each (R72, R82, R84) -/

/-- The seven cases of a command at width w: PERMUTE by its round count, WRLANE and RDLANE by their index. -/
inductive InstrCase (w : Width) : Instr → Prop
  | permuteTooHigh {nr : BitVec 8} (h : nrMax w < nr.toNat) : InstrCase w (.permute nr)
  | permuteZero : InstrCase w (.permute 0)
  | permuteRounds {nr : BitVec 8} (h0 : nr ≠ 0) (h : nr.toNat ≤ nrMax w) : InstrCase w (.permute nr)
  | wrlaneNone {i : BitVec 5} (h : 25 ≤ i.toNat) : InstrCase w (.wrlane i)
  | wrlane {i : BitVec 5} (j : Fin 25) (h : i.toNat = j.val) : InstrCase w (.wrlane i)
  | rdlaneNone {i : BitVec 5} (h : 25 ≤ i.toNat) : InstrCase w (.rdlane i)
  | rdlane {i : BitVec 5} (j : Fin 25) (h : i.toNat = j.val) : InstrCase w (.rdlane i)

/-- Every command is in one of the cases. -/
theorem InstrCase.of (w : Width) (i : Instr) : InstrCase w i := by
  cases i with
  | permute nr =>
    by_cases hgt : nrMax w < nr.toNat
    · exact .permuteTooHigh hgt
    · by_cases h0 : nr = 0
      · exact h0 ▸ .permuteZero
      · exact .permuteRounds h0 (Nat.not_lt.mp hgt)
  | wrlane i =>
    by_cases hi : i.toNat < 25
    · exact .wrlane ⟨i.toNat, hi⟩ rfl
    · exact .wrlaneNone (Nat.not_lt.mp hi)
  | rdlane i =>
    by_cases hi : i.toNat < 25
    · exact .rdlane ⟨i.toNat, hi⟩ rfl
    · exact .rdlaneNone (Nat.not_lt.mp hi)

theorem State.transactInstr_permute_of_gt {nr : BitVec 8} (h : nrMax s.width < nr.toNat) :
    s.transactInstr (.permute nr) = s.answer .roundCountTooHigh 0 := by
  simp [State.transactInstr, h]

theorem State.transactInstr_permute_zero : s.transactInstr (.permute 0) = s.answer .ok 0 := by
  simp [State.transactInstr]

theorem State.transactInstr_permute_of_le {nr : BitVec 8} (h0 : nr ≠ 0) (h : nr.toNat ≤ nrMax s.width) :
    s.transactInstr (.permute nr) = (s.permuteAtOnce nr.toNat).answer .ok 0 := by
  simp only [State.transactInstr, if_neg (Nat.not_lt.mpr h), if_neg h0]

theorem State.transactInstr_wrlane_of_ge {i : BitVec 5} (h : 25 ≤ i.toNat) :
    s.transactInstr (.wrlane i) = s.answer .illegalCommand 0 := by
  simp only [State.transactInstr, laneIndex_of_ge h]

theorem State.transactInstr_wrlane_of_eq {i : BitVec 5} {j : Fin 25} (h : i.toNat = j.val) :
    s.transactInstr (.wrlane i) = (s.writeLane j (trunc s.width.bits s.wdata)).answer .ok 0 := by
  simp only [State.transactInstr, laneIndex_eq_some.mpr h]

theorem State.transactInstr_rdlane_of_ge {i : BitVec 5} (h : 25 ≤ i.toNat) :
    s.transactInstr (.rdlane i) = s.answer .illegalCommand 0 := by
  simp only [State.transactInstr, laneIndex_of_ge h]

theorem State.transactInstr_rdlane_of_eq {i : BitVec 5} {j : Fin 25} (h : i.toNat = j.val) :
    s.transactInstr (.rdlane i) = (s.noteRead j).answer .ok (zext64 (s.readLane j)) := by
  simp only [State.transactInstr, laneIndex_eq_some.mpr h]

/-! ### A transaction: its frame, and what it does not read -/

/-- The write data sampled, and no command awaiting its response: where a transaction starts. -/
def State.sample (s : State) (c : Command) : State := { s with wdata := c.wdata, unanswered := none }

theorem State.transact_of_ok {c : Command} {i : Instr} (h : decode c.word = .ok i) :
    s.transact c = (s.sample c).transactInstr i := by
  simp only [State.transact, h, State.sample]

theorem State.transact_of_error {c : Command} {e : Illegal} (h : decode c.word = .error e) :
    s.transact c = (s.sample c).answer .illegalCommand 0 := by
  simp only [State.transact, h, State.sample]

/-- From s to t the host got one response; PHASE, what the host drives and presents, and the record of an unanswered
command are as they were. -/
structure State.Answered (s t : State) : Prop where
  width : t.width = s.width
  phase : t.phase = s.phase
  host : t.host = s.host
  script : t.script = s.script
  commands : t.commands = s.commands
  unanswered : t.unanswered = s.unanswered
  responses : ∃ r, t.responses = s.responses ++ [r]

/-- A command gets exactly one answer, in each of its cases (R53). -/
theorem State.answered_transactInstr (s : State) (i : Instr) : s.Answered (s.transactInstr i) := by
  cases i with
  | permute nr => simp only [State.transactInstr]; split_ifs <;> exact ⟨rfl, rfl, rfl, rfl, rfl, rfl, _, rfl⟩
  | wrlane i => simp only [State.transactInstr]; split <;> exact ⟨rfl, rfl, rfl, rfl, rfl, rfl, _, rfl⟩
  | rdlane i => simp only [State.transactInstr]; split <;> exact ⟨rfl, rfl, rfl, rfl, rfl, rfl, _, rfl⟩

/-- A command word, legal or not, gets exactly one answer (R49, R53). -/
theorem State.answered_transact (s : State) (c : Command) : (s.sample c).Answered (s.transact c) := by
  match hd : decode c.word with
  | .ok i => rw [transact_of_ok hd]; exact answered_transactInstr _ i
  | .error e => rw [transact_of_error hd]; exact ⟨rfl, rfl, rfl, rfl, rfl, rfl, _, rfl⟩

@[simp] theorem State.transact_phase (s : State) (c : Command) : (s.transact c).phase = s.phase :=
  (s.answered_transact c).phase

@[simp] theorem State.transact_commands (s : State) (c : Command) : (s.transact c).commands = s.commands :=
  (s.answered_transact c).commands

@[simp] theorem State.transact_unanswered (s : State) (c : Command) : (s.transact c).unanswered = none :=
  (s.answered_transact c).unanswered

theorem State.transact_responses (s : State) (c : Command) :
    ∃ r, (s.transact c).responses = s.responses ++ [r] :=
  (s.answered_transact c).responses

theorem State.HostTakes.transact (h : s.HostTakes) (c : Command) : (s.transact c).HostTakes :=
  ⟨(s.answered_transact c).host.trans h.1, (s.answered_transact c).script.trans h.2⟩

/-- The same state with other commands standing at the host. -/
def State.withCommands (s : State) (cs : List Command) : State := { s with commands := cs }

/-- No command reads what the host presents after it. -/
theorem State.transactInstr_withCommands (s : State) (cs : List Command) (i : Instr) :
    (s.withCommands cs).transactInstr i = (s.transactInstr i).withCommands cs := by
  cases InstrCase.of s.width i with
  | permuteTooHigh h => rw [transactInstr_permute_of_gt h]; exact transactInstr_permute_of_gt h
  | permuteZero => rw [transactInstr_permute_zero (s := s)]; exact transactInstr_permute_zero
  | permuteRounds h0 h => rw [transactInstr_permute_of_le h0 h]; exact transactInstr_permute_of_le h0 h
  | wrlaneNone h => rw [transactInstr_wrlane_of_ge (s := s) h]; exact transactInstr_wrlane_of_ge h
  | wrlane j h => rw [transactInstr_wrlane_of_eq (s := s) h]; exact transactInstr_wrlane_of_eq h
  | rdlaneNone h => rw [transactInstr_rdlane_of_ge (s := s) h]; exact transactInstr_rdlane_of_ge h
  | rdlane j h => rw [transactInstr_rdlane_of_eq (s := s) h]; exact transactInstr_rdlane_of_eq h

/-- No transaction reads what the host presents after it. -/
theorem State.transact_withCommands (s : State) (cs : List Command) (c : Command) :
    (s.withCommands cs).transact c = (s.transact c).withCommands cs := by
  match hd : decode c.word with
  | .ok i => rw [transact_of_ok hd, transact_of_ok hd]; exact transactInstr_withCommands (s.sample c) cs i
  | .error e => rw [transact_of_error hd, transact_of_error hd]; rfl

/-! ### A command's steps come to its transaction (R74) -/

/-- The round steps of a command on an engine of width w: a legal PERMUTE nr has nr, everything else none (R73). -/
def instrRounds (w : Width) : Instr → Nat
  | .permute nr => if nr.toNat ≤ nrMax w then nr.toNat else 0
  | _ => 0

theorem instrRounds_le (w : Width) (i : Instr) : instrRounds w i ≤ 24 := by
  cases i with
  | permute nr =>
    simp only [instrRounds]
    split_ifs with hle
    · exact hle.trans (nrMax_le w)
    · exact Nat.zero_le 24
  | wrlane i => exact Nat.zero_le 24
  | rdlane i => exact Nat.zero_le 24

/-- The rounds of a PERMUTE come to the permutation at once, its response presented (R73, R74). -/
theorem State.HostTakes.runs_startRounds {n : Nat} (h : s.HostTakes) (h0 : n ≠ 0) (hle : n ≤ nrMax s.width) :
    runs n (s.noteReadAll.startRounds ⟨nrMax s.width - n, nrMax s.width⟩) =
      .next ((s.permuteAtOnce n).respond .ok 0) := by
  obtain ⟨m, rfl⟩ := Nat.exists_eq_succ_of_ne_zero h0
  have hh : (s.noteReadAll.startRounds ⟨nrMax s.width - (m + 1), nrMax s.width⟩).HostTakes := h
  rw [runs_of_running (State.startRounds_phase _ _) (by simp only; omega) (hh.noResetFor _), hh.hostTurns_eq]
  rfl

/-- A command performed from Idle, its rounds and the taking of its response come to its atomic form. -/
theorem State.HostTakes.exec_runs_transactInstr (h : s.HostTakes) (hp : s.phase = .idle) (i : Instr) :
    ∃ u, exec i s = .next u ∧ runs (instrRounds s.width i + 1) u = .next (s.settled.transactInstr i) := by
  cases InstrCase.of s.width i with
  | @permuteTooHigh nr hgt =>
    have hrounds : instrRounds s.width (.permute nr) = 0 := if_neg (Nat.not_le.mpr hgt)
    rw [hrounds, State.transactInstr_permute_of_gt (s := s.settled) hgt]
    exact ⟨_, exec_permute_of_gt hgt, h.runs_respond hp⟩
  | permuteZero =>
    have hrounds : instrRounds s.width (.permute 0) = 0 := by simp [instrRounds]
    rw [hrounds, State.transactInstr_permute_zero]
    exact ⟨_, exec_permute_zero s, h.runs_respond hp⟩
  | @permuteRounds nr h0 hle =>
    have hrounds : instrRounds s.width (.permute nr) = nr.toNat := if_pos hle
    have hnr : nr.toNat ≠ 0 := fun hz => h0 (BitVec.eq_of_toNat_eq hz)
    refine ⟨_, exec_permute_of_le h0 hle, ?_⟩
    rw [hrounds, runs_add (h.runs_startRounds hnr hle),
      State.transactInstr_permute_of_le (s := s.settled) h0 hle]
    exact State.HostTakes.runs_respond (s := s.permuteAtOnce nr.toNat) h hp
  | wrlaneNone hge =>
    rw [State.transactInstr_wrlane_of_ge hge]
    exact ⟨_, exec_wrlane_of_ge hge, h.runs_respond hp⟩
  | wrlane j hj =>
    rw [State.transactInstr_wrlane_of_eq hj]
    exact ⟨_, exec_wrlane_of_eq hj, State.HostTakes.runs_respond (s := s.writeLane j _) h hp⟩
  | rdlaneNone hge =>
    rw [State.transactInstr_rdlane_of_ge hge]
    exact ⟨_, exec_rdlane_of_ge hge, h.runs_respond hp⟩
  | rdlane j hj =>
    rw [State.transactInstr_rdlane_of_eq hj]
    exact ⟨_, exec_rdlane_of_eq hj, State.HostTakes.runs_respond (s := s.noteRead j) h hp⟩

/-- The round steps of a command word: those of the command it decodes to, and none where it is illegal. -/
def commandRounds (w : Width) (c : Command) : Nat :=
  match decode c.word with
  | .ok i => instrRounds w i
  | .error _ => 0

theorem commandRounds_of_ok {c : Command} {i : Instr} (h : decode c.word = .ok i) (w : Width) :
    commandRounds w c = instrRounds w i := by
  simp only [commandRounds, h]

theorem commandRounds_of_error {c : Command} {e : Illegal} (h : decode c.word = .error e) (w : Width) :
    commandRounds w c = 0 := by
  simp only [commandRounds, h]

theorem commandRounds_le (w : Width) (c : Command) : commandRounds w c ≤ 24 := by
  unfold commandRounds
  split
  · exact instrRounds_le w _
  · exact Nat.zero_le 24

/-- R74 for one presented command: its acceptance, its rounds and the taking of its response come to its
transaction. -/
theorem State.HostTakes.runs_transact {c : Command} {rest : List Command} (h : s.HostTakes) (hp : s.phase = .idle)
    (hc : s.commands = c :: rest) :
    runs (commandRounds s.width c + 2) s = .next ((s.transact c).withCommands rest) := by
  have haccept : (s.accept c rest).HostTakes := h
  have hstep := h.step_of_idle_cons hp hc
  rw [← State.transact_withCommands]
  match hd : decode c.word with
  | .ok i =>
    obtain ⟨u, hexec, hrun⟩ := haccept.exec_runs_transactInstr hp i
    rw [perform_of_ok hd, hexec] at hstep
    rw [commandRounds_of_ok hd, runs_succ_of_step hstep, State.transact_of_ok hd]
    exact hrun
  | .error e =>
    rw [perform_of_error hd] at hstep
    rw [commandRounds_of_error hd, runs_succ_of_step hstep, State.transact_of_error hd]
    exact haccept.runs_respond hp

/-! ### A list of commands as a list of transactions -/

/-- The transactions of a list of commands leave PHASE and the host's commands. -/
theorem State.foldl_transact_frame (s : State) (cs : List Command) :
    (cs.foldl State.transact s).phase = s.phase ∧ (cs.foldl State.transact s).commands = s.commands := by
  induction cs generalizing s with
  | nil => exact ⟨rfl, rfl⟩
  | cons c rest ih => simpa using ih (s.transact c)

/-- After at least one transaction no command awaits its response. -/
theorem State.foldl_transact_unanswered (s : State) {cs : List Command} (h : cs ≠ []) :
    (cs.foldl State.transact s).unanswered = none := by
  rw [← List.dropLast_append_getLast h, List.foldl_append]
  exact State.transact_unanswered _ _

/-- The host has one new response for each transaction. -/
theorem State.foldl_transact_responses (s : State) (cs : List Command) :
    ∃ rs, (cs.foldl State.transact s).responses = s.responses ++ rs ∧ rs.length = cs.length := by
  induction cs generalizing s with
  | nil => exact ⟨[], (List.append_nil _).symm, rfl⟩
  | cons c rest ih =>
    obtain ⟨r, hr⟩ := s.transact_responses c
    obtain ⟨rs, hrs, hlength⟩ := ih (s.transact c)
    exact ⟨r :: rs, by simp [hrs, hr], by simp [hlength]⟩

/-- Every list of commands is performed, each command as one transaction, within 26 steps a command. -/
theorem State.HostTakes.runs_foldl_transact {cs : List Command} (h : s.HostTakes) (hp : s.phase = .idle)
    (hc : s.commands = cs) :
    ∃ n, n ≤ 26 * cs.length ∧ runs n s = .next (cs.foldl State.transact (s.withCommands [])) := by
  induction cs generalizing s with
  | nil => exact ⟨0, Nat.zero_le _, by rw [runs_zero, List.foldl_nil, ← hc]; rfl⟩
  | cons c rest ih =>
    have hh : ((s.transact c).withCommands rest).HostTakes := h.transact c
    obtain ⟨n, hn, hrun⟩ := ih hh ((s.transact_phase c).trans hp) rfl
    have hrounds := commandRounds_le s.width c
    refine ⟨commandRounds s.width c + 2 + n, by rw [List.length_cons]; omega, ?_⟩
    rw [runs_add (h.runs_transact hp hc), hrun, List.foldl_cons, State.transact_withCommands]
    rfl

/-- Settles O56: the run of the transactions, by induction on the commands, and the frame of their fold. -/
theorem everyCommandGetsOneResponse : Obligations.EveryCommandGetsOneResponse := by
  intro s hp h
  obtain ⟨n, hn, hrun⟩ := h.runs_foldl_transact hp rfl
  obtain ⟨hphase, hcommands⟩ := (s.withCommands []).foldl_transact_frame s.commands
  exact ⟨n, _, hn, hrun, rfl, hphase.trans hp, hcommands, State.foldl_transact_unanswered _,
    (s.withCommands []).foldl_transact_responses s.commands⟩

/-! ### A lane read after it was written or permuted (R39, R108) -/

/-- The word of a well-formed command decodes to it (R43, R48). -/
theorem decode_encode {i : Instr} (h : i.wf = true) : decode (encode i) = .ok i := by
  cases i with
  | permute nr => revert nr; decide
  | wrlane i => revert i; decide
  | rdlane i => revert i; decide

theorem decode_encode_permute (nr : BitVec 8) : decode (encode (.permute nr)) = .ok (.permute nr) := decode_encode rfl

theorem decode_encode_wrlane {i : BitVec 5} {j : Fin 25} (h : i.toNat = j.val) :
    decode (encode (.wrlane i)) = .ok (.wrlane i) :=
  decode_encode (decide_eq_true (by omega))

theorem decode_encode_rdlane {i : BitVec 5} {j : Fin 25} (h : i.toNat = j.val) :
    decode (encode (.rdlane i)) = .ok (.rdlane i) :=
  decode_encode (decide_eq_true (by omega))

/-- A lane just written reads as the value (R39). -/
@[simp] theorem State.readLane_writeLane_self (s : State) (j : Fin 25) (v : BitVec s.width.bits) :
    (s.writeLane j v).readLane j = v := by
  simp [State.readLane, State.writeLane]

/-- After a permutation at once every lane reads as its permuted value (R17, R74). -/
theorem State.readLane_permuteAtOnce (s : State) (n : Nat) (j : Fin 25) :
    (s.permuteAtOnce n).readLane j = (keccakP s.width s.noteReadAll.lanes n)[j.val] := by
  simp [State.readLane, State.permuteAtOnce]

/-- An RDLANE presented in Idle: at the next step the read of its lane is presented (R84, R85). -/
theorem State.HostTakes.step_rdlane {i : BitVec 5} {j : Fin 25} {d : DataWord} {rest : List Command}
    (h : s.HostTakes) (hp : s.phase = .idle) (hj : i.toNat = j.val)
    (hc : s.commands = ⟨encode (.rdlane i), d⟩ :: rest) :
    ∃ t, step s = .next t ∧ t.commands = rest ∧ t.responses = s.responses ∧
      t.phase = .responding .ok (zext64 (s.readLane j)) := by
  have hstep := h.step_of_idle_cons hp hc
  rw [perform_of_ok (decode_encode_rdlane hj), exec_rdlane_of_eq hj] at hstep
  exact ⟨_, hstep, rfl, rfl, rfl⟩

/-- A command and then an RDLANE: one step after the command's transaction the read of its lane is presented. -/
theorem State.HostTakes.runs_transact_rdlane {c : Command} {i : BitVec 5} {j : Fin 25} {d : DataWord}
    {rest : List Command} (h : s.HostTakes) (hp : s.phase = .idle) (hj : i.toNat = j.val)
    (hc : s.commands = c :: ⟨encode (.rdlane i), d⟩ :: rest) :
    ∃ t, runs (commandRounds s.width c + 2 + 1) s = .next t ∧ t.commands = rest ∧
      t.responses = (s.transact c).responses ∧ t.phase = .responding .ok (zext64 ((s.transact c).readLane j)) := by
  have hh : ((s.transact c).withCommands (⟨encode (.rdlane i), d⟩ :: rest)).HostTakes := h.transact c
  obtain ⟨t, hstep, hcommands, hresponses, hphase⟩ := hh.step_rdlane ((s.transact_phase c).trans hp) hj rfl
  exact ⟨t, (runs_add (h.runs_transact hp hc)).trans (runs_succ_of_step hstep), hcommands, hresponses, hphase⟩

/-- The transaction of a WRLANE leaves its lane with the low W bits of the write data (R82). -/
theorem State.readLane_transactInstr_wrlane {i : BitVec 5} {j : Fin 25} (hj : i.toNat = j.val) :
    zext64 ((s.transactInstr (.wrlane i)).readLane j) = zext64 (trunc s.width.bits s.wdata) := by
  rw [State.transactInstr_wrlane_of_eq hj]
  exact congrArg zext64 (s.readLane_writeLane_self j _)

/-- Settles O24: the transaction of the WRLANE, then the read of the lane it wrote. -/
theorem readAfterWriteReturnsTheData : Obligations.ReadAfterWriteReturnsTheData := by
  intro s i v d rest hi hp h hc
  obtain ⟨j, hj⟩ : ∃ j : Fin 25, i.toNat = j.val := ⟨⟨i.toNat, Nat.lt_succ_of_le hi⟩, rfl⟩
  have hd : decode (⟨encode (.wrlane i), v⟩ : Command).word = .ok (.wrlane i) := decode_encode_wrlane hj
  obtain ⟨t, hrun, hcommands, hresponses, hphase⟩ := h.runs_transact_rdlane hp hj hc
  rw [commandRounds_of_ok hd] at hrun
  rw [State.transact_of_ok hd, State.transactInstr_wrlane_of_eq hj] at hresponses
  rw [State.transact_of_ok hd, State.readLane_transactInstr_wrlane hj] at hphase
  exact ⟨t, hrun, hcommands, hresponses, hphase⟩

/-- Where every lane is written the transaction of a legal PERMUTE leaves each lane with its permuted value, no round
at all included (R74, R75). -/
theorem State.readLane_transactInstr_permute {nr : BitVec 8} (hall : s.allWritten = true)
    (hle : nr.toNat ≤ nrMax s.width) (j : Fin 25) :
    zext64 ((s.transactInstr (.permute nr)).readLane j) = zext64 (keccakP s.width s.lanes nr.toNat)[j.val] := by
  by_cases h0 : nr = 0
  · rw [h0, State.transactInstr_permute_zero]
    exact congrArg zext64 (s.readLane_of_written (s.allWritten_iff.mp hall j))
  · have hlanes : s.noteReadAll.lanes = s.lanes := if_pos hall
    have hread := s.readLane_permuteAtOnce nr.toNat j
    rw [hlanes] at hread
    rw [State.transactInstr_permute_of_le h0 hle]
    exact congrArg zext64 hread

/-- Settles O33: the transaction of the PERMUTE, then the read of the lane it permuted. -/
theorem readAfterPermuteReturnsThePermutedLane : Obligations.ReadAfterPermuteReturnsThePermutedLane := by
  intro s nr i hi d d' rest hp h hall hle hc
  obtain ⟨j, hj⟩ : ∃ j : Fin 25, i.toNat = j.val := ⟨⟨i.toNat, Nat.lt_succ_of_le hi⟩, rfl⟩
  have hd : decode (⟨encode (.permute nr), d⟩ : Command).word = .ok (.permute nr) := decode_encode_permute nr
  have hrounds : instrRounds s.width (.permute nr) = nr.toNat := if_pos hle
  obtain ⟨t, hrun, hcommands, -, hphase⟩ := h.runs_transact_rdlane hp hj hc
  rw [commandRounds_of_ok hd, hrounds] at hrun
  rw [State.transact_of_ok hd, State.readLane_transactInstr_permute (s := s.sample _) hall hle] at hphase
  simp only [hj]
  exact ⟨t, hrun, hcommands, hphase⟩

/-! ### A busy engine -/

/-- Settles O13, by the cases of a step: outside Idle a step is a reset, a round, a response taken or a wait, and only
the taking of a presented response gives the host one. -/
theorem busyEngineAcceptsNothing : Obligations.BusyEngineAcceptsNothing := by
  intro s t hbusy hstep
  refine ⟨decide_eq_false hbusy, ?_⟩
  obtain ⟨-, rfl⟩ | ⟨-, hp, -⟩ | ⟨-, hp, -⟩ | ⟨-, k, e, -, rfl⟩ | ⟨-, code, rdata, hp, rfl⟩ |
    ⟨-, code, rdata, -, rfl⟩ := step_cases hstep
  · exact ⟨rfl, rfl, fun _ => rfl⟩
  · exact absurd hp hbusy
  · exact absurd hp hbusy
  · exact ⟨rfl, rfl, fun _ => rfl⟩
  · have hpresented : s.response = some ⟨code, rdata⟩ := by simp [State.response, hp]
    exact ⟨rfl, rfl, fun hnone => absurd (hnone.symm.trans hpresented) (Option.some_ne_none _).symm⟩
  · exact ⟨rfl, rfl, fun _ => rfl⟩

/-! ### The lane access commands done twice, and refused (R27, R37) -/

/-- A lane written twice with one value is as after the first write. -/
@[simp] theorem State.writeLane_writeLane (s : State) (j : Fin 25) (v : BitVec s.width.bits) :
    (s.writeLane j v).writeLane j v = s.writeLane j v := by
  simp [State.writeLane]

/-- A lane read twice records what one read records. -/
@[simp] theorem State.noteRead_noteRead (s : State) (j : Fin 25) : (s.noteRead j).noteRead j = s.noteRead j := by
  by_cases hw : s.written[j.val] = true <;> simp [State.noteRead, hw]

/-- A WRLANE done twice writes its lane twice with one value. -/
theorem exec_wrlane_twice {i : BitVec 5} (h : exec (.wrlane i) s = .next t) : exec (.wrlane i) t = .next t := by
  obtain ⟨hge, rfl⟩ | ⟨j, hj, rfl⟩ := execWrlane_cases h
  · exact exec_wrlane_of_ge hge
  · have htwice := congrArg (fun u => u.respond .ok 0) (s.writeLane_writeLane j (trunc s.width.bits s.wdata))
    exact (exec_wrlane_of_eq hj).trans (congrArg _ htwice)

/-- An RDLANE done twice reads its lane twice, unwritten or not. -/
theorem exec_rdlane_twice {i : BitVec 5} (h : exec (.rdlane i) s = .next t) : exec (.rdlane i) t = .next t := by
  obtain ⟨hge, rfl⟩ | ⟨j, hj, rfl⟩ := execRdlane_cases h
  · exact exec_rdlane_of_ge hge
  · have htwice := congrArg (fun u => u.respond .ok (zext64 (s.readLane j))) (s.noteRead_noteRead j)
    exact (exec_rdlane_of_eq hj).trans (congrArg _ htwice)

/-- Settles O22, by the two commands. -/
theorem laneAccessIsIdempotent : Obligations.LaneAccessIsIdempotent :=
  fun _ _ _ => ⟨exec_wrlane_twice, exec_rdlane_twice⟩

/-- Settles O20: an index of 25..31 names no lane. -/
theorem laneIndexOutOfRangeIsRefused : Obligations.LaneIndexOutOfRangeIsRefused :=
  fun _ _ h => ⟨exec_wrlane_of_ge h, exec_rdlane_of_ge h⟩

/-! ### The constant tables (R28 to R33) -/

/-- Every lane but the origin is the target of exactly one step of the chain (R31). -/
theorem count_PI_of_ne_zero : ∀ j : Fin 25, j ≠ 0 → PI.toList.count j = 1 := by decide

/-- The chain moves the lane its last step wrote (R32). -/
theorem SRC_of_ne_zero (i : Fin 24) (h : i.val ≠ 0) : SRC i = PI[i.val - 1] := if_neg h

/-- The chain follows the mapping (x, y) to (y, 2x + 3y mod 5) (R32). -/
theorem PI_eq_mapping_SRC : ∀ i : Fin 24,
    (PI[i.val]).val = 5 * ((2 * ((SRC i).val % 5) + 3 * ((SRC i).val / 5)) % 5) + (SRC i).val / 5 := by decide

/-- Settles O47: the two facts about every index, and the chain's ends. -/
theorem chainTableFollowsTheMapping : Obligations.ChainTableFollowsTheMapping :=
  ⟨count_PI_of_ne_zero, by decide, rfl, rfl, SRC_of_ne_zero, PI_eq_mapping_SRC⟩

/-- The offset grid is RHO by source position (R33). -/
theorem rGrid_SRC : ∀ i : Fin 24, rGrid[(SRC i).val] = RHO[i.val] := by decide

/-- The destination grid is PI by source position (R33). -/
theorem destGrid_SRC : ∀ i : Fin 24, destGrid[(SRC i).val] = PI[i.val] := by decide

/-- Settles O48: the origin stays, and both grids agree with the chain table. -/
theorem gridsFollowTheChainTable : Obligations.GridsFollowTheChainTable :=
  ⟨rfl, rfl, fun i => ⟨rGrid_SRC i, destGrid_SRC i⟩⟩

/-- No round constant has a bit outside the positions 2^j - 1 (R28). -/
theorem RC_and_not_mask : ∀ k : Fin 24, RC[k.val] &&& ~~~ 0x800000008000808B = 0 := by decide

/-- The offsets are the triangular numbers mod 64 (R30). -/
theorem RHO_eq_triangular : ∀ i : Fin 24, RHO[i.val] = ((i.val + 1) * (i.val + 2) / 2) % 64 := by decide

/-- Settles O49, by the laws of the two tables. -/
theorem tablesMeetTheirSanityLaws : Obligations.TablesMeetTheirSanityLaws :=
  ⟨RC_and_not_mask, RHO_eq_triangular⟩

end Sys2Proof.Machine
end

/-! ## The command encoding and the pseudo-instructions (30_encoding.md) -/

section

namespace Sys2Proof

variable {cmd : CmdWord}

/-! ### The fields of a word (R43) -/

theorem opField_toNat (cmd : CmdWord) : (opField cmd).toNat = cmd.toNat / 2 ^ 24 := by
  rw [opField, BitVec.extractLsb'_toNat, Nat.shiftRight_eq_div_pow]
  omega

theorem nrField_toNat (cmd : CmdWord) : (nrField cmd).toNat = cmd.toNat % 2 ^ 8 :=
  BitVec.extractLsb'_toNat 0 8 cmd

theorem laneField_toNat (cmd : CmdWord) : (laneField cmd).toNat = cmd.toNat % 2 ^ 5 :=
  BitVec.extractLsb'_toNat 0 5 cmd

theorem permuteReservedField_toNat (cmd : CmdWord) :
    (permuteReservedField cmd).toNat = cmd.toNat / 2 ^ 8 % 2 ^ 16 := by
  rw [permuteReservedField, BitVec.extractLsb'_toNat, Nat.shiftRight_eq_div_pow]

theorem laneReservedField_toNat (cmd : CmdWord) :
    (laneReservedField cmd).toNat = cmd.toNat / 2 ^ 5 % 2 ^ 19 := by
  rw [laneReservedField, BitVec.extractLsb'_toNat, Nat.shiftRight_eq_div_pow]

/-- The three fields of the PERMUTE form make up the word. -/
theorem eq_iff_permuteForm {a b : CmdWord} : a = b ↔
    opField a = opField b ∧ permuteReservedField a = permuteReservedField b ∧ nrField a = nrField b := by
  simp only [BitVec.toNat_eq, opField_toNat, permuteReservedField_toNat, nrField_toNat]
  omega

/-- The three fields of the LANE form make up the word. -/
theorem eq_iff_laneForm {a b : CmdWord} : a = b ↔
    opField a = opField b ∧ laneReservedField a = laneReservedField b ∧ laneField a = laneField b := by
  simp only [BitVec.toNat_eq, opField_toNat, laneReservedField_toNat, laneField_toNat]
  omega

/-! ### The fields the encoder writes (R43, R44) -/

/-- An opcode, zero bits and an operand, as a number. -/
theorem toNat_append_zero_append {k m n : Nat} (op : BitVec k) (x : BitVec n) :
    (op ++ (0 : BitVec m) ++ x).toNat = op.toNat * 2 ^ (m + n) + x.toNat := by
  rw [BitVec.toNat_append, ← Nat.shiftLeft_add_eq_or_of_lt x.isLt, BitVec.toNat_append]
  simp [Nat.shiftLeft_eq, Nat.mul_assoc, Nat.pow_add]

theorem encode_permute_toNat (nr : BitVec 8) : (encode (.permute nr)).toNat = 0x01000000 + nr.toNat := by
  simp only [encode, toNat_append_zero_append, opcodeOf]
  simp

theorem encode_wrlane_toNat (i : BitVec 5) : (encode (.wrlane i)).toNat = 0x02000000 + i.toNat := by
  simp only [encode, toNat_append_zero_append, opcodeOf]
  simp

theorem encode_rdlane_toNat (i : BitVec 5) : (encode (.rdlane i)).toNat = 0x03000000 + i.toNat := by
  simp only [encode, toNat_append_zero_append, opcodeOf]
  simp

theorem encode_permute_eq_iff {nr : BitVec 8} : encode (.permute nr) = cmd ↔
    opField cmd = 0x01#8 ∧ permuteReservedField cmd = 0#16 ∧ nrField cmd = nr := by
  simp only [BitVec.toNat_eq, encode_permute_toNat, opField_toNat, permuteReservedField_toNat, nrField_toNat,
    BitVec.toNat_ofNat]
  omega

theorem encode_wrlane_eq_iff {i : BitVec 5} : encode (.wrlane i) = cmd ↔
    opField cmd = 0x02#8 ∧ laneReservedField cmd = 0#19 ∧ laneField cmd = i := by
  simp only [BitVec.toNat_eq, encode_wrlane_toNat, opField_toNat, laneReservedField_toNat, laneField_toNat,
    BitVec.toNat_ofNat]
  omega

theorem encode_rdlane_eq_iff {i : BitVec 5} : encode (.rdlane i) = cmd ↔
    opField cmd = 0x03#8 ∧ laneReservedField cmd = 0#19 ∧ laneField cmd = i := by
  simp only [BitVec.toNat_eq, encode_rdlane_toNat, opField_toNat, laneReservedField_toNat, laneField_toNat,
    BitVec.toNat_ofNat]
  omega

/-! ### The words the decoder accepts (R48) -/

theorem decodeLaneForm_eq_ok {make : BitVec 5 → Instr} {i : Instr} : decodeLaneForm make cmd = .ok i ↔
    laneReservedField cmd = 0#19 ∧ laneField cmd ≤ 24#5 ∧ make (laneField cmd) = i := by
  unfold decodeLaneForm
  split_ifs <;> simp_all

/-- R48, one disjunct per row of the opcode table. -/
theorem decode_eq_ok {i : Instr} : decode cmd = .ok i ↔
    (opField cmd = 0x01#8 ∧ permuteReservedField cmd = 0#16 ∧ .permute (nrField cmd) = i) ∨
    (opField cmd = 0x02#8 ∧ laneReservedField cmd = 0#19 ∧ laneField cmd ≤ 24#5 ∧ .wrlane (laneField cmd) = i) ∨
    (opField cmd = 0x03#8 ∧ laneReservedField cmd = 0#19 ∧ laneField cmd ≤ 24#5 ∧ .rdlane (laneField cmd) = i) := by
  by_cases h1 : opField cmd = 0x01#8
  · by_cases hres : permuteReservedField cmd = 0#16 <;> simp [decode_of_permute_opcode h1, h1, hres]
  by_cases h2 : opField cmd = 0x02#8
  · rw [decode_of_wrlane_opcode h2, decodeLaneForm_eq_ok]
    simp [h2]
  by_cases h3 : opField cmd = 0x03#8
  · rw [decode_of_rdlane_opcode h3, decodeLaneForm_eq_ok]
    simp [h3]
  · simp [decode, h1, h2, h3]

/-- Settles O1: an accepted word has the fields the encoder writes; the way back is `decode_encode`. -/
theorem decodeAgreesWithEncode : Obligations.DecodeAgreesWithEncode := by
  intro cmd i
  constructor
  · rw [decode_eq_ok]
    rintro (⟨hop, hres, rfl⟩ | ⟨hop, hres, hlane, rfl⟩ | ⟨hop, hres, hlane, rfl⟩)
    · exact ⟨rfl, encode_permute_eq_iff.mpr ⟨hop, hres, rfl⟩⟩
    · exact ⟨decide_eq_true hlane, encode_wrlane_eq_iff.mpr ⟨hop, hres, rfl⟩⟩
    · exact ⟨decide_eq_true hlane, encode_rdlane_eq_iff.mpr ⟨hop, hres, rfl⟩⟩
  · rintro ⟨hwf, rfl⟩
    exact Machine.decode_encode hwf

/-- A word decodes to a command with the property exactly when it belongs to a row whose command has it. -/
theorem exists_decode_eq_ok_and {p : Instr → Prop} : (∃ i, decode cmd = .ok i ∧ p i) ↔
    (opField cmd = 0x01#8 ∧ permuteReservedField cmd = 0#16 ∧ p (.permute (nrField cmd))) ∨
    (opField cmd = 0x02#8 ∧ laneReservedField cmd = 0#19 ∧ laneField cmd ≤ 24#5 ∧ p (.wrlane (laneField cmd))) ∨
    (opField cmd = 0x03#8 ∧ laneReservedField cmd = 0#19 ∧ laneField cmd ≤ 24#5 ∧ p (.rdlane (laneField cmd))) := by
  simp [decode_eq_ok, or_and_right, exists_or, and_assoc]

/-! ### The illegal words (R49) -/

/-- Settles O2: the fields the decoder accepts, in numbers, and the answer to a word it refuses. -/
theorem illegalWordsAreRefused : Obligations.IllegalWordsAreRefused := by
  intro cmd s op illegal
  have hillegal : illegal ↔ ∀ i, decode cmd ≠ .ok i := by
    have hlegal := exists_decode_eq_ok_and (cmd := cmd) (p := fun _ => True)
    simp only [and_true, BitVec.toNat_eq, BitVec.le_def, opField_toNat, permuteReservedField_toNat,
      laneReservedField_toNat, laneField_toNat, BitVec.toNat_ofNat] at hlegal
    simp only [illegal, op]
    rw [← not_exists, hlegal]
    omega
  refine ⟨hillegal, fun h => ?_⟩
  match hd : decode cmd with
  | .ok i => exact absurd hd (hillegal.mp h i)
  | .error e => exact Machine.perform_of_error hd s

/-! ### The rows of the opcode table -/

theorem opField_and (a b : CmdWord) : opField (a &&& b) = opField a &&& opField b := BitVec.extractLsb'_and

theorem nrField_and (a b : CmdWord) : nrField (a &&& b) = nrField a &&& nrField b := BitVec.extractLsb'_and

theorem laneField_and (a b : CmdWord) : laneField (a &&& b) = laneField a &&& laneField b :=
  BitVec.extractLsb'_and

theorem permuteReservedField_and (a b : CmdWord) :
    permuteReservedField (a &&& b) = permuteReservedField a &&& permuteReservedField b := BitVec.extractLsb'_and

theorem laneReservedField_and (a b : CmdWord) :
    laneReservedField (a &&& b) = laneReservedField a &&& laneReservedField b := BitVec.extractLsb'_and

/-- The mask of the PERMUTE row keeps OP and the reserved bits. -/
theorem and_permuteMask_eq_iff {p : CmdWord} {op : BitVec 8}
    (hp : opField p = op ∧ permuteReservedField p = 0#16 ∧ nrField p = 0#8) :
    cmd &&& 0xFFFFFF00#32 = p ↔ opField cmd = op ∧ permuteReservedField cmd = 0#16 := by
  have hmask : opField 0xFFFFFF00#32 = BitVec.allOnes 8 ∧
      permuteReservedField 0xFFFFFF00#32 = BitVec.allOnes 16 ∧ nrField 0xFFFFFF00#32 = 0#8 := by decide
  simp only [eq_iff_permuteForm, opField_and, permuteReservedField_and, nrField_and, hmask, hp, BitVec.and_allOnes,
    BitVec.and_zero, and_true]

/-- The mask of a LANE row keeps OP and the reserved bits. -/
theorem and_laneMask_eq_iff {p : CmdWord} {op : BitVec 8}
    (hp : opField p = op ∧ laneReservedField p = 0#19 ∧ laneField p = 0#5) :
    cmd &&& 0xFFFFFFE0#32 = p ↔ opField cmd = op ∧ laneReservedField cmd = 0#19 := by
  have hmask : opField 0xFFFFFFE0#32 = BitVec.allOnes 8 ∧
      laneReservedField 0xFFFFFFE0#32 = BitVec.allOnes 19 ∧ laneField 0xFFFFFFE0#32 = 0#5 := by decide
  simp only [eq_iff_laneForm, opField_and, laneReservedField_and, laneField_and, hmask, hp, BitVec.and_allOnes,
    BitVec.and_zero, and_true]

/-- Settles O4, row by row: the mask leaves the fields on which the decoder accepts the row's command. -/
theorem opcodeRowsSelectCommands : Obligations.OpcodeRowsSelectCommands := by
  intro r hr cmd
  rw [exists_decode_eq_ok_and]
  simp only [opcodeTable, List.mem_cons, List.not_mem_nil, or_false] at hr
  obtain rfl | rfl | rfl := hr
  · have hmask := and_permuteMask_eq_iff (cmd := cmd) (p := 0x01000000#32) (op := 0x01#8) (by decide)
    simp [OpcodeRow.accepts, hmask, mnemonicOf]
  · have hmask := and_laneMask_eq_iff (cmd := cmd) (p := 0x02000000#32) (op := 0x02#8) (by decide)
    simp [OpcodeRow.accepts, hmask, mnemonicOf, and_assoc]
  · have hmask := and_laneMask_eq_iff (cmd := cmd) (p := 0x03000000#32) (op := 0x03#8) (by decide)
    simp [OpcodeRow.accepts, hmask, mnemonicOf, and_assoc]

end Sys2Proof
end

section

namespace Sys2Proof.Machine

variable {s t : State}

/-! ### Response codes and assembler lines (R54, R55) -/

/-- Settles O5, code by code. -/
theorem responseCodesAreAsListed : Obligations.ResponseCodesAreAsListed := by
  refine ⟨rfl, rfl, rfl, fun c => ?_⟩
  cases c <;> decide

theorem assemble_permute_of_le {nr : Nat} (h : nr ≤ 255) :
    assemble (.permute nr) = some ⟨encode (.permute (BitVec.ofNat 8 nr)), 0⟩ := if_pos h

theorem assemble_wrlane_of_le {i v : Nat} (hi : i ≤ 24) (hv : v < 2 ^ 64) :
    assemble (.wrlane i v) = some ⟨encode (.wrlane (BitVec.ofNat 5 i)), BitVec.ofNat 64 v⟩ := if_pos ⟨hi, hv⟩

theorem assemble_rdlane_of_le {i : Nat} (h : i ≤ 24) :
    assemble (.rdlane i) = some ⟨encode (.rdlane (BitVec.ofNat 5 i)), 0⟩ := if_pos h

theorem encode_permute_ofNat {nr : Nat} (h : nr ≤ 255) :
    encode (.permute (BitVec.ofNat 8 nr)) = BitVec.ofNat 32 (0x01000000 + nr) := by
  simp only [BitVec.toNat_eq, encode_permute_toNat, BitVec.toNat_ofNat]
  omega

theorem encode_wrlane_ofNat {i : Nat} (h : i ≤ 24) :
    encode (.wrlane (BitVec.ofNat 5 i)) = BitVec.ofNat 32 (0x02000000 + i) := by
  simp only [BitVec.toNat_eq, encode_wrlane_toNat, BitVec.toNat_ofNat]
  omega

theorem encode_rdlane_ofNat {i : Nat} (h : i ≤ 24) :
    encode (.rdlane (BitVec.ofNat 5 i)) = BitVec.ofNat 32 (0x03000000 + i) := by
  simp only [BitVec.toNat_eq, encode_rdlane_toNat, BitVec.toNat_ofNat]
  omega

/-- Settles O6: the encoder's words in numbers, and the ranges the assembler checks. -/
theorem assemblerLinesGiveTheirWords : Obligations.AssemblerLinesGiveTheirWords := by
  refine ⟨fun nr h => ?_, fun i v hi hv => ?_, fun i h => ?_, fun nr h => ?_, fun i v h => ?_, fun i h => ?_,
    fun cmd d => rfl⟩
  · rw [assemble_permute_of_le h, encode_permute_ofNat h]
  · rw [assemble_wrlane_of_le hi hv, encode_wrlane_ofNat hi]
  · rw [assemble_rdlane_of_le h, encode_rdlane_ofNat h]
  · exact if_neg (by omega)
  · exact if_neg (by omega)
  · exact if_neg (by omega)

/-! ### The step (R49, R53) -/

/-- Settles O7: the presented command is accepted, and its word is legal. -/
theorem stepRunsTheDecodedCommand : Obligations.StepRunsTheDecodedCommand :=
  fun _ _ _ _ hr hp hc hd => (step_of_idle_cons hr hp hc).trans (perform_of_ok hd _)

/-- Settles O8: the presented command is accepted, and its word is illegal. -/
theorem stepAnswersAnIllegalWord : Obligations.StepAnswersAnIllegalWord :=
  fun _ _ _ _ hr hp hc hd => (step_of_idle_cons hr hp hc).trans (perform_of_error hd _)

/-- Settles O11, by the step in which the host takes the response. -/
theorem takenResponseReturnsToIdle : Obligations.TakenResponseReturnsToIdle :=
  fun _ _ _ hh hp => step_of_takes hh hp

/-! ### The write data (R47) -/

/-- The same state with other write data sampled. -/
def State.withWdata (d : DataWord) (s : State) : State := { s with wdata := d }

/-- WRLANE reads the low W bits of the write data, every other command none of it (R47). -/
theorem exec_withWdata {i : Instr} {d : DataWord}
    (hd : (∃ lane, i = .wrlane lane) → trunc s.width.bits d = trunc s.width.bits s.wdata)
    (h : exec i s = .next t) : exec i (s.withWdata d) = .next (t.withWdata d) := by
  cases i with
  | permute nr =>
    obtain ⟨hgt, rfl⟩ | ⟨rfl, rfl⟩ | ⟨h0, hle, rfl⟩ := execPermute_cases h
    · exact exec_permute_of_gt hgt
    · exact exec_permute_zero _
    · exact exec_permute_of_le h0 hle
  | wrlane lane =>
    obtain ⟨hge, rfl⟩ | ⟨j, hj, rfl⟩ := execWrlane_cases h
    · exact exec_wrlane_of_ge hge
    · rw [← hd ⟨lane, rfl⟩]
      exact exec_wrlane_of_eq hj
  | rdlane lane =>
    obtain ⟨hge, rfl⟩ | ⟨j, hj, rfl⟩ := execRdlane_cases h
    · exact exec_rdlane_of_ge hge
    · exact exec_rdlane_of_eq hj

/-- An illegal word reads no write data either (R47). -/
theorem perform_withWdata {cmd : CmdWord} {d : DataWord}
    (hd : (∃ lane, decode cmd = .ok (.wrlane lane)) → trunc s.width.bits d = trunc s.width.bits s.wdata)
    (h : perform cmd s = .next t) : perform cmd (s.withWdata d) = .next (t.withWdata d) := by
  obtain ⟨e, he, rfl⟩ | ⟨i, hi, hexec⟩ := perform_cases h
  · exact perform_of_error he _
  · rw [perform_of_ok hi]
    exact exec_withWdata (fun ⟨lane, hlane⟩ => hd ⟨lane, hlane ▸ hi⟩) hexec

/-- After WRLANE the lane of its operand holds the low W bits of the write data (R82). -/
theorem exec_wrlane_lane64 {i : BitVec 5} {j : Fin 25} (hj : i.toNat = j.val) (h : exec (.wrlane i) s = .next t) :
    t.lane64 j = zext64 (trunc s.width.bits s.wdata) := by
  rw [exec_wrlane_of_eq hj] at h
  injection h with h
  rw [← h, State.lane64_respond, State.lane64_writeLane_self]

/-- Settles O23: no command reads the ignored bits, and WRLANE writes the others. -/
theorem writeDataIsIgnored : Obligations.WriteDataIsIgnored := by
  intro s t cmd d hd h
  refine ⟨perform_withWdata hd h, fun i hi hwrlane => ?_⟩
  rw [perform_of_ok hwrlane] at h
  exact exec_wrlane_lane64 (j := ⟨i.toNat, hi⟩) rfl h

/-! ### PERMUTEF (R56, R79) -/

/-- Settles O59: the ceiling is a round count the assembler takes, and a window of that length starts at RC[0]. -/
theorem permutefIsTheFullPermutation : Obligations.PermutefIsTheFullPermutation := by
  intro w A
  have hle : nrMax w ≤ 255 := (nrMax_le w).trans (by decide)
  refine ⟨⟨⟨encode (.permute (BitVec.ofNat 8 (nrMax w))), 0⟩, ?_, decode_encode_permute _⟩, ?_⟩
  · simp [assembleAll, Pseudo.expand, assemble_permute_of_le hle]
  · rw [keccakP, Nat.sub_self]

/-! ### Commands without rounds: two steps each (R53) -/

@[simp] theorem State.transact_width (s : State) (c : Command) : (s.transact c).width = s.width :=
  (s.answered_transact c).width

/-- No list of transactions reads what the host presents after it. -/
theorem State.foldl_transact_withCommands (s : State) (rest cs : List Command) :
    cs.foldl State.transact (s.withCommands rest) = (cs.foldl State.transact s).withCommands rest :=
  List.foldl_hom (State.withCommands · rest) fun u c => u.transact_withCommands rest c

/-- Where no command of a list has a round step, each takes an acceptance and the taking of its response. -/
theorem State.HostTakes.runs_foldl_transact_of_no_rounds {cs rest : List Command} (h : s.HostTakes)
    (hp : s.phase = .idle) (hc : s.commands = cs ++ rest) (hr : ∀ c ∈ cs, commandRounds s.width c = 0) :
    runs (2 * cs.length) s = .next ((cs.foldl State.transact s).withCommands rest) := by
  induction cs generalizing s with
  | nil =>
    rw [List.nil_append] at hc
    subst hc
    rfl
  | cons c cs ih =>
    have hfirst := h.runs_transact hp hc
    rw [hr c List.mem_cons_self, Nat.zero_add] at hfirst
    have hh : ((s.transact c).withCommands (cs ++ rest)).HostTakes := h.transact c
    have hlater := ih hh ((s.transact_phase c).trans hp) rfl fun c' hc' =>
      (congrArg (commandRounds · c') (s.transact_width c)).trans (hr c' (List.mem_cons_of_mem c hc'))
    rw [List.length_cons, Nat.mul_succ, Nat.add_comm, runs_add hfirst]
    refine hlater.trans ?_
    rw [State.foldl_transact_withCommands]
    rfl

/-! ### LDSTATE and STSTATE as lists of commands (R56) -/

/-- The command of the line `WRLANE j, d`. -/
def wrlaneCommand (j : Fin 25) (d : DataWord) : Command := ⟨encode (.wrlane (BitVec.ofNat 5 j.val)), d⟩

/-- The command of the line `RDLANE j`. -/
def rdlaneCommand (j : Fin 25) : Command := ⟨encode (.rdlane (BitVec.ofNat 5 j.val)), 0⟩

/-- A lane's index as an operand. -/
theorem toNat_ofNat_lane (j : Fin 25) : (BitVec.ofNat 5 j.val).toNat = j.val := by
  rw [BitVec.toNat_ofNat]
  omega

theorem decode_wrlaneCommand (j : Fin 25) (d : DataWord) :
    decode (wrlaneCommand j d).word = .ok (.wrlane (BitVec.ofNat 5 j.val)) :=
  decode_encode_wrlane (toNat_ofNat_lane j)

theorem decode_rdlaneCommand (j : Fin 25) :
    decode (rdlaneCommand j).word = .ok (.rdlane (BitVec.ofNat 5 j.val)) :=
  decode_encode_rdlane (toNat_ofNat_lane j)

theorem commandRounds_wrlaneCommand (w : Width) (j : Fin 25) (d : DataWord) :
    commandRounds w (wrlaneCommand j d) = 0 := commandRounds_of_ok (decode_wrlaneCommand j d) w

theorem commandRounds_rdlaneCommand (w : Width) (j : Fin 25) : commandRounds w (rdlaneCommand j) = 0 :=
  commandRounds_of_ok (decode_rdlaneCommand j) w

theorem assembleAll_ldstate (w : Width) (v : Vector DataWord 25) :
    assembleAll (Pseudo.expand w (.ldstate v)) = (List.finRange 25).map fun j => wrlaneCommand j v[j.val] := by
  have hline (j : Fin 25) : assemble (.wrlane j.val v[j.val].toNat) = some (wrlaneCommand j v[j.val]) := by
    rw [assemble_wrlane_of_le (by omega) (BitVec.isLt _), BitVec.ofNat_toNat, BitVec.setWidth_eq]
    rfl
  rw [assembleAll, Pseudo.expand, List.filterMap_map, ← List.filterMap_eq_map]
  exact congrArg (List.filterMap · _) (funext hline)

theorem assembleAll_ststate (w : Width) :
    assembleAll (Pseudo.expand w .ststate) = (List.finRange 25).map rdlaneCommand := by
  have hline (j : Fin 25) : assemble (.rdlane j.val) = some (rdlaneCommand j) := assemble_rdlane_of_le (by omega)
  rw [assembleAll, Pseudo.expand, List.filterMap_map, ← List.filterMap_eq_map]
  exact congrArg (List.filterMap · _) (funext hline)

/-- The transaction of a WRLANE (R82). -/
theorem State.transact_wrlaneCommand (s : State) (j : Fin 25) (d : DataWord) :
    s.transact (wrlaneCommand j d) =
      ((s.sample (wrlaneCommand j d)).writeLane j (trunc s.width.bits d)).answer .ok 0 :=
  (State.transact_of_ok (decode_wrlaneCommand j d)).trans (State.transactInstr_wrlane_of_eq (toNat_ofNat_lane j))

/-- The transaction of an RDLANE of a written lane (R84). -/
theorem State.transact_rdlaneCommand {j : Fin 25} (h : s.written[j.val] = true) :
    s.transact (rdlaneCommand j) = (s.sample (rdlaneCommand j)).answer .ok (zext64 s.lanes[j.val]) := by
  have hnote := (s.sample (rdlaneCommand j)).noteRead_of_written h
  have hread := (s.sample (rdlaneCommand j)).readLane_of_written h
  rw [State.transact_of_ok (decode_rdlaneCommand j), State.transactInstr_rdlane_of_eq (toNat_ofNat_lane j), hnote,
    hread]
  rfl

/-! ### Writing and reading a list of lanes -/

/-- The vector with the elements at the listed indices set to the function's values. -/
def setAll {α : Type} {n : Nat} (f : Fin n → α) (js : List (Fin n)) (A : Vector α n) : Vector α n :=
  js.foldl (fun A j => A.set j.val (f j)) A

theorem getElem_setAll {α : Type} {n : Nat} (f : Fin n → α) (js : List (Fin n)) (A : Vector α n) (k : Fin n) :
    (setAll f js A)[k.val] = if k ∈ js then f k else A[k.val] := by
  induction js generalizing A with
  | nil => simp [setAll]
  | cons j js ih =>
    refine (ih _).trans ?_
    by_cases hk : k = j
    · simp [hk]
    · have hne : j.val ≠ k.val := fun e => hk (Fin.ext e.symm)
      simp [hk, Vector.getElem_set_ne, hne]

theorem setAll_finRange {α : Type} {n : Nat} (f : Fin n → α) (A : Vector α n) :
    setAll f (List.finRange n) A = Vector.ofFn f := by
  refine Vector.ext fun i hi => ?_
  rw [getElem_setAll f _ A ⟨i, hi⟩]
  simp

/-- Of the values met along all indices the last one stays. -/
theorem foldl_finRange_last {α : Type} {n : Nat} (f : Fin (n + 1) → α) (a : α) :
    (List.finRange (n + 1)).foldl (fun _ j => f j) a = f (Fin.last n) := by
  rw [List.finRange_succ_last, List.foldl_append]
  rfl

/-- The transactions of `WRLANE j, v[j]` for the listed lanes (R82). -/
theorem State.foldl_transact_wrlaneCommand (s : State) (v : Vector DataWord 25) (js : List (Fin 25)) :
    (js.map fun j => wrlaneCommand j v[j.val]).foldl State.transact s =
      { s with
        lanes := setAll (fun j => trunc s.width.bits v[j.val]) js s.lanes
        written := setAll (fun _ => true) js s.written
        wdata := js.foldl (fun _ j => v[j.val]) s.wdata
        unanswered := js.foldl (fun _ _ => none) s.unanswered
        responses := s.responses ++ js.map fun _ => ⟨.ok, 0⟩ } := by
  induction js generalizing s with
  | nil => simp [setAll]
  | cons j js ih =>
    rw [List.map_cons, List.foldl_cons, ih, State.transact_wrlaneCommand, List.map_cons, List.append_cons]
    rfl

/-- The transactions of `RDLANE j` for the listed lanes, all lanes being written (R84). -/
theorem State.foldl_transact_rdlaneCommand (s : State) (js : List (Fin 25)) (h : s.allWritten = true) :
    (js.map rdlaneCommand).foldl State.transact s =
      { s with
        wdata := js.foldl (fun _ _ => 0) s.wdata
        unanswered := js.foldl (fun _ _ => none) s.unanswered
        responses := s.responses ++ js.map fun j => ⟨.ok, zext64 s.lanes[j.val]⟩ } := by
  induction js generalizing s with
  | nil => simp
  | cons j js ih =>
    rw [List.map_cons, List.foldl_cons, State.transact_rdlaneCommand (s.allWritten_iff.mp h j)]
    refine (ih _ (by exact h)).trans ?_
    rw [List.map_cons, List.append_cons]
    rfl

/-- Settles O57: 25 transactions of two steps each, and what the writes of all indices leave. -/
theorem ldstateLoadsTheWholeState : Obligations.LdstateLoadsTheWholeState := by
  intro s v rest hp h hc
  rw [assembleAll_ldstate] at hc
  have hrun := h.runs_foldl_transact_of_no_rounds hp hc (by simp [commandRounds_wrlaneCommand])
  have hlanes : (Vector.ofFn fun j : Fin 25 => trunc s.width.bits v[j.val]) = v.map (trunc s.width.bits) := by
    ext; simp
  have hwritten : (Vector.ofFn fun _ : Fin 25 => true) = Vector.replicate 25 true := by ext; simp
  rw [State.foldl_transact_wrlaneCommand, setAll_finRange, setAll_finRange, hlanes, hwritten, foldl_finRange_last,
    foldl_finRange_last, List.map_const', List.length_map, List.length_finRange] at hrun
  exact hrun

/-- Settles O58: 25 transactions of two steps each, and the answers of all indices in order. -/
theorem ststateReadsTheWholeState : Obligations.StstateReadsTheWholeState := by
  intro s rest hp h hall hc
  rw [assembleAll_ststate] at hc
  have hrun := h.runs_foldl_transact_of_no_rounds hp hc (by simp [commandRounds_rdlaneCommand])
  have hanswers : (List.finRange 25).map (fun j => (⟨.ok, zext64 s.lanes[j.val]⟩ : Response)) =
      s.lanes.toList.map fun v => ⟨.ok, zext64 v⟩ := by
    apply List.ext_getElem <;> simp
  rw [State.foldl_transact_rdlaneCommand s _ hall, hanswers, foldl_finRange_last, foldl_finRange_last,
    List.length_map, List.length_finRange] at hrun
  exact hrun

end Sys2Proof.Machine
end

/-! ## The round (40_round.md) -/

section

namespace Sys2Proof.Machine

variable {w : Nat}

/-! ### Rotation as a map on words -/

/-- Two words with the same bits at the rotated positions are the same word: every position is one of them. -/
theorem eq_of_getLsbD_add_mod {a b : BitVec w} (n : Nat)
    (h : ∀ j < w, a.getLsbD ((j + n) % w) = b.getLsbD ((j + n) % w)) : a = b := by
  refine BitVec.eq_of_getLsbD_eq fun i hi => ?_
  have hn : n % w < w := Nat.mod_lt _ (by omega)
  have hback : ((i + (w - n % w)) % w + n) % w = i := by
    have hsum : i + (w - n % w) + n % w = i + w := by omega
    rw [Nat.mod_add_mod, ← Nat.add_mod_mod, hsum, Nat.add_mod_right, Nat.mod_eq_of_lt hi]
  simpa only [hback] using h ((i + (w - n % w)) % w) (Nat.mod_lt _ (by omega))

theorem rotl_injective (n : Nat) : Function.Injective fun v : BitVec w => rotl v n := by
  intro a b h
  refine BitVec.eq_of_getLsbD_eq fun j hj => ?_
  rw [← getLsbD_rotl_add_mod a n hj, ← getLsbD_rotl_add_mod b n hj]
  exact congrArg (·.getLsbD ((j + n) % w)) h

theorem rotl_xor (a b : BitVec w) (n : Nat) : rotl (a ^^^ b) n = rotl a n ^^^ rotl b n := by
  refine eq_of_getLsbD_add_mod n fun j hj => ?_
  simp only [BitVec.getLsbD_xor, getLsbD_rotl_add_mod _ _ hj]

theorem rotl_rotl (v : BitVec w) (m n : Nat) : rotl (rotl v m) n = rotl v (m + n) := by
  refine eq_of_getLsbD_add_mod (m + n) fun j hj => ?_
  rw [getLsbD_rotl_add_mod v _ hj, ← Nat.add_assoc, ← Nat.mod_add_mod,
    getLsbD_rotl_add_mod _ _ (Nat.mod_lt _ (by omega)), getLsbD_rotl_add_mod v _ hj]

@[simp] theorem rotl_self_width (v : BitVec w) : rotl v w = v := by simp [rotl]

@[simp] theorem rotl_allOnes (n : Nat) : rotl (BitVec.allOnes w) n = BitVec.allOnes w := by
  refine eq_of_getLsbD_add_mod n fun j hj => ?_
  simp [getLsbD_rotl_add_mod _ _ hj, hj, Nat.mod_lt (j + n) (show 0 < w by omega)]

/-! ### Theta (R59, R60) -/

theorem at_theta (A : Lanes w) (x y : Fin 5) :
    at_ (theta A) x y = at_ A x y ^^^ (columnParity A (x + 4) ^^^ rotl (columnParity A (x + 1)) 1) :=
  at_grid _ x y

/-- The parity of a column by the indices of its lanes (R59). -/
theorem columnParity_eq_getElem (A : Lanes w) (x : Fin 5) :
    columnParity A x = A[x.val] ^^^ A[x.val + 5] ^^^ A[x.val + 10] ^^^ A[x.val + 15] ^^^ A[x.val + 20] := by
  simp [columnParity, at_, Nat.add_comm]

/-- Settles O36: Theta's equation, with the parities by index. -/
theorem thetaAtEveryLane : Obligations.ThetaAtEveryLane := by
  intro w A x y
  simp only [at_theta, columnParity_eq_getElem]

/-- Only the column of the one lane has a parity. -/
theorem columnParity_grid_single (v : BitVec w) (x0 y0 x : Fin 5) :
    columnParity (grid fun a b => if a = x0 ∧ b = y0 then v else 0) x = if x = x0 then v else 0 := by
  by_cases hx : x = x0
  · subst hx
    fin_cases y0 <;> simp [columnParity]
  · simp [columnParity, hx]

/-- Settles O37: column x sees the parity of column x0 from its left when x = x0 + 1, from its right when
x = x0 + 4, and never from both. -/
theorem thetaSpreadsOneLane : Obligations.ThetaSpreadsOneLane := by
  intro w v x0 y0 x y
  have hleft : x + 4 = x0 ↔ x = x0 + 1 := by omega
  have hright : x + 1 = x0 ↔ x = x0 + 4 := by omega
  rw [at_theta, at_grid, columnParity_grid_single, columnParity_grid_single]
  simp only [hleft, hright]
  congr 1
  by_cases h1 : x = x0 + 1
  · simp [h1]
  · by_cases h4 : x = x0 + 4 <;> simp [h4]

/-! ### RhoPi (R61, R62) -/

/-- The lane that RhoPi moves to a lane: (x, y) goes to (y, 2x + 3y), so (x, y) comes from (x + 3y, x) (R61). -/
def rhoPiSource (j : Fin 25) : Fin 25 := indexOf (column j + 3 * row j) (column j)

/-- What RhoPi puts at a lane: its source, rotated by the source's offset (R61). -/
def rhoPiLane (A : Lanes w) (j : Fin 25) : BitVec w :=
  rotl A[(rhoPiSource j).val] rGrid[(rhoPiSource j).val]

theorem rhoPiSource_PI : ∀ i : Fin 24, rhoPiSource PI[i.val] = SRC i := by decide

theorem rhoPiSource_indexOf : ∀ x y : Fin 5, rhoPiSource (indexOf y (2 * x + 3 * y)) = indexOf x y := by decide

theorem rhoPiLane_zero (A : Lanes w) : rhoPiLane A 0 = A[0] := rotl_zero_count _

theorem rhoPiLane_PI (A : Lanes w) (i : Fin 24) :
    rhoPiLane A PI[i.val] = rotl A[(SRC i).val] RHO[i.val] := by
  simp only [rhoPiLane, rhoPiSource_PI, rGrid_SRC]

/-- The closed form writes each target of the chain once. -/
theorem rhoPi_eq_setAll (A : Lanes w) :
    rhoPi A = setAll (rhoPiLane A) ((List.finRange 24).map fun i => PI[i.val]) A := by
  simp only [setAll, List.foldl_map, rhoPiLane_PI]
  rfl

theorem mem_map_PI_of_ne_zero : ∀ j : Fin 25, j ≠ 0 → j ∈ (List.finRange 24).map fun i => PI[i.val] := by decide

theorem getElem_rhoPi (A : Lanes w) (j : Fin 25) : (rhoPi A)[j.val] = rhoPiLane A j := by
  rw [rhoPi_eq_setAll, getElem_setAll]
  by_cases hj : j = 0
  · subst hj
    simp [rhoPiLane_zero]
  · exact if_pos (mem_map_PI_of_ne_zero j hj)

theorem at_rhoPi (A : Lanes w) (x y : Fin 5) :
    at_ (rhoPi A) y (2 * x + 3 * y) = rotl (at_ A x y) rGrid[5 * y.val + x.val] := by
  rw [at_eq_getElem_indexOf, getElem_rhoPi, rhoPiLane]
  simp only [rhoPiSource_indexOf]
  rfl

/-- Settles O38, by what RhoPi puts at each lane. -/
theorem rhoPiMovesEveryLane : Obligations.RhoPiMovesEveryLane := fun _ => at_rhoPi

/-- One assignment of the closed form, from the lanes S (R61). -/
def rhoPiStep (S B : Lanes w) (i : Fin 24) : Lanes w :=
  B.set (PI[i.val]).val (rotl S[(SRC i).val] RHO[i.val])

theorem rhoPi_eq_foldl_rhoPiStep (S : Lanes w) : rhoPi S = (List.finRange 24).foldl (rhoPiStep S) S := rfl

/-- Along steps whose sources are the targets of the steps before them, the carry is the source's old value as long
as no target is written twice: the chain writes what the closed form writes. -/
theorem foldl_rhoPiChainStep (S : Lanes w) {l : List (Fin 24)}
    (hchain : l.IsChain fun i i' => SRC i' = PI[i.val]) (hnodup : (l.map fun i => PI[i.val]).Nodup)
    {B : Lanes w} (hB : ∀ i ∈ l, B[(PI[i.val]).val] = S[(PI[i.val]).val])
    {carry : BitVec w} (hcarry : ∀ i ∈ l.head?, carry = S[(SRC i).val]) :
    (l.foldl rhoPiChainStep (B, carry)).1 = l.foldl (rhoPiStep S) B := by
  induction l generalizing B carry with
  | nil => rfl
  | cons i l ih =>
    obtain ⟨hfresh, hnodup⟩ := List.nodup_cons.mp hnodup
    obtain ⟨hnext, hchain⟩ := List.isChain_cons.mp hchain
    have hstep : rhoPiChainStep (B, carry) i = (rhoPiStep S B i, S[(PI[i.val]).val]) := by
      rw [rhoPiChainStep, hcarry i rfl, hB i List.mem_cons_self, rhoPiStep]
    rw [List.foldl_cons, List.foldl_cons, hstep]
    refine ih hchain hnodup (fun k hk => ?_) (fun k hk => by simp only [hnext k hk])
    have hne : (PI[i.val]).val ≠ (PI[k.val]).val := fun e =>
      hfresh (List.mem_map.mpr ⟨k, hk, (Fin.ext e).symm⟩)
    rw [rhoPiStep, Vector.getElem_set_ne _ _ hne, hB k (List.mem_cons_of_mem i hk)]

/-- Settles O39: the table is one chain that starts at lane 1 and meets no lane twice (R32). -/
theorem rhoPiChainEqualsClosedForm : Obligations.RhoPiChainEqualsClosedForm := by
  intro w S
  have hcarry : ∀ i ∈ (List.finRange 24).head?, S[1] = S[(SRC i).val] := by
    rintro i ⟨⟩
    rfl
  rw [rhoPi_eq_foldl_rhoPiStep]
  exact foldl_rhoPiChainStep S (by decide) (by decide) (fun _ _ => rfl) hcarry

/-- Each lane stands in the image, under a rotation. -/
theorem rhoPi_injective : Function.Injective fun A : Lanes w => rhoPi A := by
  intro A B h
  refine lanes_ext fun x y => rotl_injective rGrid[5 * y.val + x.val] ?_
  simp only [← at_rhoPi]
  exact congrArg (at_ · y (2 * x + 3 * y)) h

/-- There are finitely many states, so an injective step reaches each of them. -/
theorem bijective_of_injective {f : Lanes w → Lanes w} (h : Function.Injective f) : Function.Bijective f := by
  have hlanes : Function.Injective fun (A : Lanes w) (j : Fin 25) => (A[j.val]).toFin :=
    fun A B hAB => Vector.ext fun i hi => BitVec.eq_of_toFin_eq (congrFun hAB ⟨i, hi⟩)
  have := Finite.of_injective _ hlanes
  exact Finite.injective_iff_bijective.mp h

/-- Settles O44: rotations are injective, the targets are all lanes, and the states are finite. -/
theorem rhoPiIsABijection : Obligations.RhoPiIsABijection := fun _ => bijective_of_injective rhoPi_injective

/-! ### Chi and Iota (R63, R64) -/

theorem at_chi (A : Lanes w) (x y : Fin 5) :
    at_ (chi A) x y = at_ A x y ^^^ (~~~ at_ A (x + 1) y &&& at_ A (x + 2) y) := at_grid _ x y

/-- Settles O40, by Chi's equation at a position. -/
theorem chiAtEveryLane : Obligations.ChiAtEveryLane := fun _ => at_chi

/-- The inverse of Chi on a row of five lanes. -/
def chiInverse (B : Lanes w) : Lanes w :=
  grid fun x y => at_ B x y ^^^
    (~~~ at_ B (x + 1) y &&& (at_ B (x + 2) y ^^^ (~~~ at_ B (x + 3) y &&& at_ B (x + 4) y)))

/-- One bit of Chi undone, from the five bits of its row. -/
theorem chiInverse_bit : ∀ a b c d e : Bool,
    ((a ^^ (!b && c)) ^^ (!(b ^^ (!c && d)) && ((c ^^ (!d && e)) ^^ (!(d ^^ (!e && a)) && (e ^^ (!a && b)))))) = a := by
  decide

theorem chiInverse_chi : Function.LeftInverse chiInverse fun A : Lanes w => chi A := by
  intro A
  refine lanes_ext fun x y => BitVec.eq_of_getLsbD_eq fun i hi => ?_
  simp only [chiInverse, at_grid, at_chi, add_assoc, Fin.isValue, Fin.reduceAdd, add_zero, BitVec.getLsbD_xor,
    BitVec.getLsbD_and, BitVec.getLsbD_not, hi, decide_true, Bool.true_and]
  exact chiInverse_bit _ _ _ _ _

theorem chi_injective : Function.Injective fun A : Lanes w => chi A := chiInverse_chi.injective

/-- Settles O43: Chi has a left inverse. -/
theorem chiIsInjective : Obligations.ChiIsInjective := fun _ _ _ h => chi_injective h

theorem iota_iota (A : Lanes w) (c : BitVec w) : iota (iota A c) c = A := by
  simp [iota]

/-- Settles O41: Iota sets lane 0 alone. -/
theorem iotaChangesLaneZeroOnly : Obligations.IotaChangesLaneZeroOnly := by
  intro w A c
  refine ⟨Vector.getElem_set_self _, fun i hi hne => ?_, iota_iota A c⟩
  exact Vector.getElem_set_ne _ _ hne.symm

theorem iota_injective (c : BitVec w) : Function.Injective fun A : Lanes w => iota A c :=
  Function.LeftInverse.injective (g := fun A => iota A c) (iota_iota · c)

/-! ### The round of a constant state (R58) -/

@[simp] theorem at_replicate (v : BitVec w) (x y : Fin 5) : at_ (Vector.replicate 25 v : Lanes w) x y = v := by
  simp [at_]

/-- A round of 25 equal lanes that no rotation changes: the parities cancel in Theta, RhoPi moves equal lanes, and
Chi's product of a lane and its complement is zero. Iota remains. -/
theorem round_replicate {v : BitVec w} (hv : ∀ n, rotl v n = v) (c : BitVec w) :
    Machine.round (Vector.replicate 25 v) c = (Vector.replicate 25 v).set 0 (v ^^^ c) := by
  have htheta : theta (Vector.replicate 25 v : Lanes w) = Vector.replicate 25 v :=
    lanes_ext fun x y => by simp [at_theta, columnParity, hv]
  have hrhoPi : rhoPi (Vector.replicate 25 v : Lanes w) = Vector.replicate 25 v :=
    Vector.ext fun i hi => by simp [getElem_rhoPi _ ⟨i, hi⟩, rhoPiLane, hv]
  have hchi : chi (Vector.replicate 25 v : Lanes w) = Vector.replicate 25 v :=
    lanes_ext fun x y => by simp [at_chi]
  rw [Machine.round, htheta, hrhoPi, hchi, iota, Vector.getElem_replicate]

/-- Settles O42: no rotation changes the zero or the all-ones lane. -/
theorem roundOfConstantStates : Obligations.RoundOfConstantStates := by
  intro w c
  constructor
  · simpa using round_replicate (w := w) rotl_zero_value c
  · simpa using round_replicate (w := w) rotl_allOnes c

/-! ### Theta and the round are invertible where W is a power of two (R68) -/

/-- The family equals its neighbours at distance d, the right one rotated by n. With d = 1 and n = 1 this says that
Theta's image of a state with these parities has zero parities. -/
def NeighbourSum (C : Fin 5 → BitVec w) (d : Fin 5) (n : Nat) : Prop :=
  ∀ x, C x = C (x - d) ^^^ rotl (C (x + d)) n

/-- Squaring: substituted into itself the relation holds at twice the distance, since the two middle terms cancel. -/
theorem NeighbourSum.double {C : Fin 5 → BitVec w} {d : Fin 5} {n : Nat} (h : NeighbourSum C d n) :
    NeighbourSum C (d + d) (n + n) := by
  intro x
  have hleft : C (x - d) = C (x - (d + d)) ^^^ rotl (C x) n := by
    simpa only [sub_add_cancel, sub_sub] using h (x - d)
  have hright : C (x + d) = C x ^^^ rotl (C (x + (d + d))) n := by
    simpa only [add_sub_cancel_right, add_assoc] using h (x + d)
  calc C x = C (x - d) ^^^ rotl (C (x + d)) n := h x
    _ = C (x - (d + d)) ^^^ rotl (C x) n ^^^ (rotl (C x) n ^^^ rotl (C (x + (d + d))) (n + n)) := by
      rw [hleft, hright, rotl_xor, rotl_rotl]
    _ = C (x - (d + d)) ^^^ rotl (C (x + (d + d))) (n + n) := by
      rw [BitVec.xor_assoc, ← BitVec.xor_assoc (rotl (C x) n), BitVec.xor_self, BitVec.zero_xor]

theorem NeighbourSum.exists_two_pow {C : Fin 5 → BitVec w} (h : NeighbourSum C 1 1) (k : Nat) :
    ∃ d, NeighbourSum C d (2 ^ k) := by
  induction k with
  | zero => exact ⟨1, h⟩
  | succ k ih =>
    obtain ⟨d, hd⟩ := ih
    exact ⟨d + d, by simpa only [Nat.pow_succ, Nat.mul_two] using hd.double⟩

/-- At the full width the rotation is gone, and five steps of distance d come back to the start: each word equals
its neighbour, hence its own sum with itself. -/
theorem NeighbourSum.eq_zero {C : Fin 5 → BitVec w} {d : Fin 5} (h : NeighbourSum C d w) (x : Fin 5) : C x = 0#w := by
  have hsum (x : Fin 5) : C x = C (x - d) ^^^ C (x + d) := by simpa only [rotl_self_width] using h x
  have hdouble (x : Fin 5) : C x = C (x - (d + d)) ^^^ C (x + (d + d)) := by
    simpa only [← rotl_rotl, rotl_self_width] using h.double x
  have hnext (x : Fin 5) : C (x + d) = C x := by
    have htwice : x + (d + d) + d = x - (d + d) := by omega
    have hback : x + (d + d) - d = x + d := by omega
    have hright := hsum (x + (d + d))
    rw [hback, htwice] at hright
    rw [hdouble x, hright, BitVec.xor_comm (C (x + d)), ← BitVec.xor_assoc, BitVec.xor_self, BitVec.zero_xor]
  have hprev : C (x - d) = C x := by simpa only [sub_add_cancel] using (hnext (x - d)).symm
  rw [hsum x, hnext x, hprev, BitVec.xor_self]

/-- Theta XORs a column's word D[x] into five lanes, an odd number: the parity changes by D[x]. -/
theorem columnParity_theta (A : Lanes w) (x : Fin 5) :
    columnParity (theta A) x =
      columnParity A x ^^^ (columnParity A (x + 4) ^^^ rotl (columnParity A (x + 1)) 1) := by
  rw [columnParity]
  simp only [at_theta]
  generalize columnParity A (x + 4) ^^^ rotl (columnParity A (x + 1)) 1 = D
  calc _ = columnParity A x ^^^ D ^^^ (D ^^^ D) ^^^ (D ^^^ D) := by rw [columnParity]; ac_rfl
    _ = columnParity A x ^^^ D := by simp only [BitVec.xor_self, BitVec.xor_zero]

theorem xor_eq_xor_of_xor_eq_xor {a b c d : BitVec w} (h : a ^^^ c = b ^^^ d) : a ^^^ b = c ^^^ d := by
  refine (BitVec.xor_left_inj (c ^^^ b)).mp ?_
  calc a ^^^ b ^^^ (c ^^^ b) = a ^^^ c ^^^ (b ^^^ b) := by ac_rfl
    _ = b ^^^ d ^^^ (c ^^^ c) := by rw [h, BitVec.xor_self, BitVec.xor_self]
    _ = c ^^^ d ^^^ (c ^^^ b) := by ac_rfl

/-- The parities of two states with one image differ by a family that is zero. -/
theorem columnParity_eq_of_theta_eq {k : Nat} (hw : w = 2 ^ k) {A B : Lanes w} (h : theta A = theta B) :
    columnParity A = columnParity B := by
  have hsum : NeighbourSum (fun x => columnParity A x ^^^ columnParity B x) 1 1 := by
    intro x
    have hx := congrArg (columnParity · x) h
    simp only [columnParity_theta] at hx
    have h4 : x - 1 = x + 4 := by omega
    simp only [xor_eq_xor_of_xor_eq_xor hx, h4, rotl_xor]
    ac_rfl
  obtain ⟨d, hd⟩ := hsum.exists_two_pow k
  rw [← hw] at hd
  exact funext fun x => BitVec.xor_eq_zero_iff.mp (hd.eq_zero x)

/-- Two states with one image have the same parities, so Theta changes both by the same words D[x]. -/
theorem theta_injective {k : Nat} (hw : w = 2 ^ k) : Function.Injective fun A : Lanes w => theta A := by
  intro A B h
  refine lanes_ext fun x y => ?_
  have hxy := congrArg (at_ · x y) h
  simp only [at_theta, columnParity_eq_of_theta_eq hw h] at hxy
  exact (BitVec.xor_left_inj _).mp hxy

/-- Four injective steps one after the other (R58). -/
theorem round_injective {k : Nat} (hw : w = 2 ^ k) (c : BitVec w) :
    Function.Injective fun A : Lanes w => Machine.round A c :=
  (((iota_injective c).comp chi_injective).comp rhoPi_injective).comp (theta_injective hw)

theorem exists_bits_eq_two_pow (w : Width) : ∃ k, w.bits = 2 ^ k := by
  cases w with
  | w8 => exact ⟨3, rfl⟩
  | w16 => exact ⟨4, rfl⟩
  | w32 => exact ⟨5, rfl⟩
  | w64 => exact ⟨6, rfl⟩

/-- Settles O45: the four widths are powers of two, and the states are finite. -/
theorem roundIsInvertible : Obligations.RoundIsInvertible := by
  intro w c
  obtain ⟨k, hk⟩ := exists_bits_eq_two_pow w
  exact bijective_of_injective (round_injective hk c)

end Sys2Proof.Machine
end

/-! ## The PERMUTE command (41_permute.md) -/

section

namespace Sys2Proof.Machine

variable {s t : State}

/-! ### Every state steps (R81, R107) -/

/-- Every command is answered with a next state, in each of its cases. -/
theorem exists_exec_eq_next (i : Instr) (s : State) : ∃ t, exec i s = .next t := by
  cases InstrCase.of s.width i with
  | permuteTooHigh h => exact ⟨_, exec_permute_of_gt h⟩
  | permuteZero => exact ⟨_, exec_permute_zero s⟩
  | permuteRounds h0 h => exact ⟨_, exec_permute_of_le h0 h⟩
  | wrlaneNone h => exact ⟨_, exec_wrlane_of_ge h⟩
  | wrlane j h => exact ⟨_, exec_wrlane_of_eq h⟩
  | rdlaneNone h => exact ⟨_, exec_rdlane_of_ge h⟩
  | rdlane j h => exact ⟨_, exec_rdlane_of_eq h⟩

/-- Every command word is answered with a next state, an illegal one included (R49). -/
theorem exists_perform_eq_next (cmd : CmdWord) (s : State) : ∃ t, perform cmd s = .next t := by
  match hd : decode cmd with
  | .ok i => rw [perform_of_ok hd]; exact exists_exec_eq_next i s
  | .error e => exact ⟨_, perform_of_error hd s⟩

/-- Settles O16: a reset always takes effect, and without one each phase has its step. -/
theorem everyStateSteps : Obligations.EveryStateSteps := by
  intro s
  by_cases hr : s.host = .resets
  · exact ⟨_, step_of_resets hr⟩
  match hp : s.phase with
  | .idle =>
    match hc : s.commands with
    | [] => exact ⟨_, step_of_idle_nil hr hp hc⟩
    | c :: rest => rw [step_of_idle_cons hr hp hc]; exact exists_perform_eq_next _ _
  | .running k e => exact ⟨_, step_of_running hr hp⟩
  | .responding code rdata =>
    cases hh : s.host with
    | takes => exact ⟨_, step_of_takes hh hp⟩
    | waits => exact ⟨_, step_of_waits hh hp⟩
    | resets => exact absurd hh hr

/-! ### The window (R69) -/

/-- Settles O35: the four ceilings, and the two cases of the window mapper. -/
theorem windowIsTheTrailingSlice : Obligations.WindowIsTheTrailingSlice := by
  refine ⟨rfl, rfl, rfl, rfl, fun w nr => ?_⟩
  obtain ⟨hgt, hw⟩ | ⟨hle, hw⟩ := windowMap_cases w nr
  · exact ⟨fun _ => hw, fun hle => absurd hgt (Nat.not_lt.mpr hle)⟩
  · exact ⟨fun hgt => absurd hgt (Nat.not_lt.mpr hle), fun _ => hw⟩

/-! ### PERMUTE at acceptance (R72, R75, R76, R80) -/

/-- Settles O25: the response alone is the change of PHASE alone. -/
theorem permuteZeroLeavesTheState : Obligations.PermuteZeroLeavesTheState := exec_permute_zero

/-- Settles O26: raising the error is the change of PHASE alone (R88). -/
theorem roundCountTooHighIsRefused : Obligations.RoundCountTooHighIsRefused := fun _ _ => exec_permute_of_gt

theorem permuteCount_ne_zero {nr : BitVec 8} (h : 1 ≤ nr.toNat) : nr ≠ 0 := by
  rintro rfl
  exact absurd h (by decide)

/-- Settles O27: the read of 25 written lanes changes nothing before the rounds start. -/
theorem permuteStartsTheRounds : Obligations.PermuteStartsTheRounds := by
  intro s nr h1 hle hwritten
  rw [exec_permute_of_le (permuteCount_ne_zero h1) hle, s.noteReadAll_of_allWritten (s.allWritten_iff.mpr hwritten)]
  rfl

/-- The read of all lanes where one is unwritten: the fault is recorded, and each lane is what a read of it gives
(R80). -/
theorem State.noteReadAll_of_unwritten {j : Fin 25} (h : s.written[j.val] = false) :
    s.noteReadAll =
      { s with lanes := Vector.ofFn fun j => s.readLane j, modelFault := some .unwrittenLane } := by
  have hall : ¬ s.allWritten = true := fun ha => Bool.false_ne_true (h.symm.trans (s.allWritten_iff.mp ha j))
  simp only [State.noteReadAll, if_neg hall]

/-- Settles O28: the read of the lanes finds an unwritten one, and then the rounds start. -/
theorem permuteOnUnwrittenLanes : Obligations.PermuteOnUnwrittenLanes := by
  intro s nr h1 hle ⟨j, hj⟩
  rw [exec_permute_of_le (permuteCount_ne_zero h1) hle, State.noteReadAll_of_unwritten hj]
  rfl

/-- Settles O29, by the three answers of PERMUTE: the two responses change PHASE alone, and the read of the lanes before
the rounds keeps the written lanes, and everything where all are written. -/
theorem permuteAcceptanceFrame : Obligations.PermuteAcceptanceFrame := by
  intro s t nr h
  obtain ⟨-, rfl⟩ | ⟨-, rfl⟩ | ⟨h0, hle, rfl⟩ := execPermute_cases h
  · exact ⟨fun _ _ => rfl, fun _ => ⟨rfl, fun _ => rfl⟩, rfl, rfl, rfl, rfl, rfl, rfl, rfl, rfl, rfl, rfl⟩
  · exact ⟨fun _ _ => rfl, fun _ => ⟨rfl, fun _ => rfl⟩, rfl, rfl, rfl, rfl, rfl, rfl, rfl, rfl, rfl, rfl⟩
  · refine ⟨fun j => s.lane64_noteReadAll_of_written j, ?_, rfl, rfl, rfl, rfl, rfl, rfl, rfl, rfl, rfl, rfl⟩
    rintro (hall | hzero | hgt)
    · rw [s.noteReadAll_of_allWritten hall]
      exact ⟨rfl, fun _ => rfl⟩
    · exact absurd hzero h0
    · exact absurd hgt (Nat.not_lt.mpr hle)

/-! ### The partial-round law (R74, R78) -/

/-- The first m rounds of a window split off: what is left is the window of the remaining rounds. -/
theorem keccakP_eq_keccakP_sub (w : Width) (A : Lanes w.bits) {m nr : Nat} (hm : m ≤ nr) (hle : nr ≤ nrMax w) :
    keccakP w A nr = keccakP w (roundsFrom (nrMax w - nr) m A) (nr - m) := by
  have hstart : nrMax w - (nr - m) = nrMax w - nr + m := by omega
  rw [keccakP, keccakP, hstart, ← roundsFrom_add, Nat.add_sub_cancel' hm]

/-- Settles O34: the law is the general form with one round split off. -/
theorem partialRoundLaw : Obligations.PartialRoundLaw := by
  refine fun w A => ⟨fun n hn h24 => ?_, fun nr m => keccakP_eq_keccakP_sub w A⟩
  rw [keccakP_eq_keccakP_sub w A (Nat.le_add_left 1 n) hn, Nat.add_sub_cancel, roundsFrom_succ, roundsFrom_zero,
    ← Nat.sub_sub, roundAt_of_lt h24]
  rfl

/-! ### A PERMUTE on written lanes runs its rounds (R73, R74) -/

/-- An operation that commutes with one move of the host commutes with n of them. -/
theorem State.hostTurns_map {f : State → State} (hf : ∀ u, (f u).hostTurn = f u.hostTurn) (s : State) (n : Nat) :
    (f s).hostTurns n = f (s.hostTurns n) := by
  induction n generalizing s with
  | zero => rfl
  | succ n ih => rw [State.hostTurns, hf, ih, State.hostTurns]

/-- Starting the rounds reads and writes nothing the host drives. -/
theorem State.hostTurns_startRounds (s : State) (w : Window) (n : Nat) :
    (s.startRounds w).hostTurns n = (s.hostTurns n).startRounds w :=
  s.hostTurns_map (f := (·.startRounds w)) (fun _ => rfl) n

/-- An acceptance reads and writes nothing the host drives on rst and rsp_ready. -/
theorem State.hostTurns_accept (s : State) (c : Command) (rest : List Command) (n : Nat) :
    (s.accept c rest).hostTurns n = (s.hostTurns n).accept c rest :=
  s.hostTurns_map (f := (·.accept c rest)) (fun _ => rfl) n

/-- The host's moves change what it drives and what is left of its script, nothing else. -/
theorem State.hostTurns_eq (s : State) (n : Nat) :
    s.hostTurns n = { s with host := s.moveAt n, script := s.script.drop n } := by
  induction n generalizing s with
  | zero => rfl
  | succ n ih => rw [State.hostTurns, ih, ← List.drop_tail]; rfl

/-- A host that drives no reset drives none after the acceptance of a command either. -/
theorem State.NoResetFor.accept {n : Nat} (h : s.NoResetFor n) (c : Command) (rest : List Command) :
    (s.accept c rest).NoResetFor n := fun j hj => by
  rw [State.moveAt, State.hostTurns_accept]
  exact h j hj

/-- A host that drives no reset drives none once the rounds have started either. -/
theorem State.NoResetFor.startRounds {n : Nat} (h : s.NoResetFor n) (w : Window) :
    (s.startRounds w).NoResetFor n := fun j hj => by
  rw [State.moveAt, State.hostTurns_startRounds]
  exact h j hj

/-- The lanes permuted by n rounds, and RSP_OK presented: what the n round steps come to where every lane is written. -/
def State.permuted (s : State) (n : Nat) : State :=
  { s with lanes := keccakP s.width s.lanes n, phase := .responding .ok 0 }

/-- Where every lane is written, WR is 25 times true. -/
theorem State.written_eq_of_allWritten (h : s.allWritten = true) : s.written = Vector.replicate 25 true := by
  ext j hj
  rw [s.allWritten_iff.mp h ⟨j, hj⟩, Vector.getElem_replicate]

/-- Finishing the window of n rounds on written lanes changes no WR bit. -/
theorem State.finishRounds_of_allWritten (h : s.allWritten = true) (n : Nat) :
    s.finishRounds (nrMax s.width - n) n = s.permuted n := by
  rw [State.finishRounds, ← State.written_eq_of_allWritten h]
  rfl

/-- A legal PERMUTE performed on written lanes, followed by as many steps as it has rounds (R73, R75). -/
theorem exec_permute_runs_permuted {nr : BitVec 8} (hle : nr.toNat ≤ nrMax s.width) (hall : s.allWritten = true)
    (hr : s.NoResetFor nr.toNat) :
    ∃ u, exec (.permute nr) s = .next u ∧ runs nr.toNat u = .next ((s.hostTurns nr.toNat).permuted nr.toNat) := by
  by_cases h0 : nr = 0
  · subst h0
    exact ⟨_, exec_permute_zero s, rfl⟩
  · obtain ⟨n, hn⟩ := Nat.exists_eq_succ_of_ne_zero fun hz => h0 (BitVec.eq_of_toNat_eq hz)
    refine ⟨_, exec_permute_of_le h0 hle, ?_⟩
    rw [s.noteReadAll_of_allWritten hall]
    rw [hn] at hle hr ⊢
    have hall' : (s.hostTurns (n + 1)).allWritten = true := by rwa [State.hostTurns_eq]
    rw [runs_of_running (State.startRounds_phase _ _) (by simp only; omega) (hr.startRounds _),
      State.hostTurns_startRounds, ← State.finishRounds_of_allWritten hall', State.hostTurns_eq]
    rfl

/-- A presented legal PERMUTE on written lanes: its acceptance and its rounds (R53, R73). -/
theorem runs_permuted {c : Command} {rest : List Command} {nr : BitVec 8} (hp : s.phase = .idle)
    (hc : s.commands = c :: rest) (hd : decode c.word = .ok (.permute nr)) (hle : nr.toNat ≤ nrMax s.width)
    (hall : s.allWritten = true) (hr : s.NoResetFor (nr.toNat + 1)) :
    runs (nr.toNat + 1) s = .next (((s.hostTurns (nr.toNat + 1)).accept c rest).permuted nr.toNat) := by
  obtain ⟨hnow, hlater⟩ := State.noResetFor_succ hr
  obtain ⟨u, hexec, hrun⟩ :=
    exec_permute_runs_permuted (s := s.hostTurn.accept c rest) hle hall (hlater.accept c rest)
  have hstep : step s = .next u := by rw [step_of_idle_cons hnow hp hc, perform_of_ok hd, hexec]
  rw [runs_succ_of_step hstep, hrun, State.hostTurns_accept, State.hostTurns]

/-- Settles O31: the run of the PERMUTE, and what the host's moves change. -/
theorem permuteComputesKeccakP : Obligations.PermuteComputesKeccakP := by
  intro s c rest nr hp hc hd hle hall hr
  rw [runs_permuted hp hc hd hle hall hr, State.hostTurns_eq]
  rfl

/-! ### Two PERMUTEs in a row (R77) -/

/-- A PERMUTE's word presented to an engine whose host takes: after acceptance and rounds the host drives what it
drove. -/
theorem State.HostTakes.runs_permuted {nr : BitVec 8} {d : DataWord} {rest : List Command} (h : s.HostTakes)
    (hp : s.phase = .idle) (hall : s.allWritten = true) (hle : nr.toNat ≤ nrMax s.width)
    (hc : s.commands = ⟨encode (.permute nr), d⟩ :: rest) :
    runs (nr.toNat + 1) s = .next ((s.accept ⟨encode (.permute nr), d⟩ rest).permuted nr.toNat) := by
  rw [Machine.runs_permuted hp hc (decode_encode_permute nr) hle hall (h.noResetFor _), h.hostTurns_eq]

/-- At the next step the host takes the RSP_OK of that PERMUTE (R53). -/
theorem State.HostTakes.runs_permuted_taken {nr : BitVec 8} {d : DataWord} {rest : List Command} (h : s.HostTakes)
    (hp : s.phase = .idle) (hall : s.allWritten = true) (hle : nr.toNat ≤ nrMax s.width)
    (hc : s.commands = ⟨encode (.permute nr), d⟩ :: rest) :
    runs (nr.toNat + 1 + 1) s =
      .next (((s.accept ⟨encode (.permute nr), d⟩ rest).permuted nr.toNat).takeResponse .ok 0) := by
  have hh : ((s.accept ⟨encode (.permute nr), d⟩ rest).permuted nr.toNat).HostTakes := h
  rw [runs_add (h.runs_permuted hp hall hle hc), runs_succ_of_step (step_of_takes hh.1 rfl), hh.hostTurn_eq, runs_zero]

/-- Settles O32: the first PERMUTE and the taking of its response, then the second PERMUTE. -/
theorem permutesRunOneAfterTheOther : Obligations.PermutesRunOneAfterTheOther := by
  intro s a b d d' rest hp h hall ha hb hc
  have hcount : a.toNat + b.toNat + 3 = a.toNat + 1 + 1 + (b.toNat + 1) := by omega
  rw [hcount, runs_add (h.runs_permuted_taken hp hall ha hc)]
  exact State.HostTakes.runs_permuted
    (s := ((s.accept _ (⟨encode (.permute b), d'⟩ :: rest)).permuted a.toNat).takeResponse .ok 0) h rfl hall hb rfl

end Sys2Proof.Machine
end

/-! ## The lane access commands (42_lane_access.md) -/

section

namespace Sys2Proof.Machine

/-! ### The frame of one lane (R86) -/

/-- A write of lane k leaves the WR bit of every other lane (R86). -/
theorem State.written_writeLane_of_ne (s : State) {j k : Fin 25} (v : BitVec s.width.bits) (h : j.val ≠ k.val) :
    (s.writeLane k v).written[j.val] = s.written[j.val] := by
  rw [State.writeLane_written]
  exact Vector.getElem_set_ne k.isLt j.isLt h.symm

/-- The read of an unwritten lane records the model fault and changes nothing else (R85). -/
theorem State.noteRead_of_unwritten (s : State) {j : Fin 25} (h : s.written[j.val] = false) :
    s.noteRead j = { s with modelFault := some .unwrittenLane } := by
  simp [State.noteRead, h]

/-- Only the read of an unwritten lane changes the model fault (R85). -/
theorem State.unwritten_of_noteRead_modelFault_ne (s : State) {j : Fin 25}
    (h : (s.noteRead j).modelFault ≠ s.modelFault) : s.written[j.val] = false := by
  by_contra hw
  exact h (congrArg State.modelFault (s.noteRead_of_written (Bool.of_not_eq_false hw)))

/-- Settles O21, by the two answers of each command: an index that names no lane changes PHASE alone, WRLANE writes the
lane it names, and RDLANE may record the model fault. -/
theorem laneAccessTouchesOneLane : Obligations.LaneAccessTouchesOneLane := by
  intro s t i
  constructor
  · intro h
    obtain ⟨-, rfl⟩ | ⟨k, hk, rfl⟩ := execWrlane_cases h
    · exact ⟨fun _ _ => ⟨rfl, rfl⟩, rfl, rfl, rfl, rfl, rfl, rfl, rfl, rfl, rfl, rfl⟩
    · refine ⟨fun j hj => ?_, rfl, rfl, rfl, rfl, rfl, rfl, rfl, rfl, rfl, rfl⟩
      rw [hk] at hj
      exact ⟨s.lane64_writeLane_of_ne j _ (Fin.ne_of_val_ne hj.symm), s.written_writeLane_of_ne (trunc s.width.bits s.wdata) hj⟩
  · intro h
    obtain ⟨-, rfl⟩ | ⟨k, hk, rfl⟩ := execRdlane_cases h
    · exact ⟨fun _ => ⟨rfl, rfl⟩, fun hne => absurd rfl hne, rfl, rfl, rfl, rfl, rfl, rfl, rfl, rfl, rfl⟩
    · refine ⟨fun _ => ⟨rfl, rfl⟩, fun hne => ⟨hk ▸ k.isLt, ?_⟩, rfl, rfl, rfl, rfl, rfl, rfl, rfl, rfl, rfl⟩
      simp only [hk]
      exact s.unwritten_of_noteRead_modelFault_ne hne

/-! ### The next state of a legal lane index (R83 to R85) -/

/-- Settles O17: the write of the lane the operand names, and then the response. -/
theorem wrlaneWritesTheTruncatedData : Obligations.WrlaneWritesTheTruncatedData :=
  fun _ i h => exec_wrlane_of_eq (j := ⟨i.toNat, Nat.lt_succ_of_le h⟩) rfl

/-- RDLANE of a written lane gives it as it stands and records nothing (R84). -/
theorem exec_rdlane_of_written {s : State} {i : BitVec 5} {j : Fin 25} (hj : i.toNat = j.val)
    (hw : s.written[j.val] = true) :
    exec (.rdlane i) s = .next (s.respond .ok (zext64 s.lanes[j.val])) := by
  rw [exec_rdlane_of_eq hj, s.noteRead_of_written hw, s.readLane_of_written hw]

/-- RDLANE of an unwritten lane records the model fault and gives the free value (R85). -/
theorem exec_rdlane_of_unwritten {s : State} {i : BitVec 5} {j : Fin 25} (hj : i.toNat = j.val)
    (hw : s.written[j.val] = false) :
    exec (.rdlane i) s = .next
      (State.respond { s with modelFault := some .unwrittenLane } .ok
        (zext64 (trunc s.width.bits (Config.unwrittenLane s.resets j.val)))) := by
  rw [exec_rdlane_of_eq hj, s.noteRead_of_unwritten hw, s.readLane_of_unwritten hw]

/-- Settles O18: the operand names the lane of its own value. -/
theorem rdlaneReturnsTheLane : Obligations.RdlaneReturnsTheLane :=
  fun _ i h hw => exec_rdlane_of_written (j := ⟨i.toNat, Nat.lt_succ_of_le h⟩) rfl hw

/-- Settles O19: the operand names the lane of its own value. -/
theorem rdlaneOfAnUnwrittenLane : Obligations.RdlaneOfAnUnwrittenLane :=
  fun _ i h hw => exec_rdlane_of_unwritten (j := ⟨i.toNat, Nat.lt_succ_of_le h⟩) rfl hw

end Sys2Proof.Machine
end

/-! ## Error responses, the recorded model fault and the idle engine (60_exceptions.md) -/

section

namespace Sys2Proof.Machine

variable {s t : State}

/-! ### What an error response leaves unchanged (R87, R91) -/

/-- The response presented is the one that was given (R52). -/
@[simp] theorem State.response_respond (s : State) (code : RspCode) (rdata : DataWord) :
    (s.respond code rdata).response = some ⟨code, rdata⟩ := rfl

/-- No response is presented when the rounds start (R52). -/
@[simp] theorem State.response_startRounds (s : State) (w : Window) : (s.startRounds w).response = none := rfl

/-- The response of a command that answers RSP_OK is no error. -/
theorem State.response_respond_ok_ne {code : RspCode} {rdata rdata' : DataWord} (hcode : code ≠ .ok) :
    (s.respond .ok rdata').response ≠ some ⟨code, rdata⟩ := by
  rw [State.response_respond]
  rintro ⟨⟩
  exact hcode rfl

/-- A command that presents an error has changed PHASE alone: its other answers are RSP_OK or a running phase (R87). -/
theorem exec_eq_of_error_response {i : Instr} {code : RspCode} {rdata : DataWord} (h : exec i s = .next t)
    (hr : t.response = some ⟨code, rdata⟩) (hcode : code ≠ .ok) : t = { s with phase := t.phase } := by
  cases i with
  | permute nr =>
    obtain ⟨-, rfl⟩ | ⟨-, rfl⟩ | ⟨-, -, rfl⟩ := execPermute_cases h
    · rfl
    · rfl
    · exact absurd hr (by simp)
  | wrlane i =>
    obtain ⟨-, rfl⟩ | ⟨j, -, rfl⟩ := execWrlane_cases h
    · rfl
    · exact absurd hr (State.response_respond_ok_ne hcode)
  | rdlane i =>
    obtain ⟨-, rfl⟩ | ⟨j, -, rfl⟩ := execRdlane_cases h
    · rfl
    · exact absurd hr (State.response_respond_ok_ne hcode)

/-- A command word that presents an error, an illegal one included, has changed PHASE alone (R87, R89). -/
theorem perform_eq_of_error_response {cmd : CmdWord} {code : RspCode} {rdata : DataWord}
    (h : perform cmd s = .next t) (hr : t.response = some ⟨code, rdata⟩) (hcode : code ≠ .ok) :
    t = { s with phase := t.phase } := by
  obtain ⟨e, -, rfl⟩ | ⟨i, -, hexec⟩ := perform_cases h
  · rfl
  · exact exec_eq_of_error_response hexec hr hcode

/-- Settles O30: neither error code is RSP_OK, an illegal word is answered before its command is looked at, and a
PERMUTE checks its round count first. -/
theorem errorResponsesChangeNothing : Obligations.ErrorResponsesChangeNothing := by
  intro s t cmd h
  refine ⟨?frame, ?illegal, ?tooHigh⟩
  case frame =>
    rintro (hr | hr) <;> exact perform_eq_of_error_response h hr (by decide)
  case illegal =>
    rintro ⟨e, hd⟩
    rw [perform_of_error hd] at h
    cases h
    rfl
  case tooHigh =>
    intro nr hd hgt
    rw [perform_of_ok hd, exec_permute_of_gt hgt] at h
    cases h
    rfl

/-! ### No operation clears a recorded model fault (R90) -/

/-- The read of a lane may record the model fault and never clears it (R85). -/
theorem State.noteRead_modelFault_ne_none (s : State) (j : Fin 25) (hf : s.modelFault ≠ none) :
    (s.noteRead j).modelFault ≠ none := by
  rw [State.noteRead_modelFault]
  split
  · exact hf
  · exact Option.some_ne_none _

/-- The read of all lanes may record the model fault and never clears it (R80). -/
theorem State.noteReadAll_modelFault_ne_none (s : State) (hf : s.modelFault ≠ none) :
    s.noteReadAll.modelFault ≠ none := by
  rw [State.noteReadAll_modelFault]
  split
  · exact hf
  · exact Option.some_ne_none _

/-- No command clears the model fault: only the reads of PERMUTE and RDLANE write it. -/
theorem exec_modelFault_ne_none {i : Instr} (h : exec i s = .next t) (hf : s.modelFault ≠ none) :
    t.modelFault ≠ none := by
  cases i with
  | permute nr =>
    obtain ⟨-, rfl⟩ | ⟨-, rfl⟩ | ⟨-, -, rfl⟩ := execPermute_cases h
    · exact hf
    · exact hf
    · rw [State.startRounds_modelFault]
      exact s.noteReadAll_modelFault_ne_none hf
  | wrlane i =>
    obtain ⟨-, rfl⟩ | ⟨j, -, rfl⟩ := execWrlane_cases h <;> exact hf
  | rdlane i =>
    obtain ⟨-, rfl⟩ | ⟨j, -, rfl⟩ := execRdlane_cases h
    · exact hf
    · rw [State.respond_modelFault]
      exact s.noteRead_modelFault_ne_none j hf

/-- No command word, legal or illegal, clears the model fault. -/
theorem perform_modelFault_ne_none {cmd : CmdWord} (h : perform cmd s = .next t) (hf : s.modelFault ≠ none) :
    t.modelFault ≠ none := by
  obtain ⟨e, -, rfl⟩ | ⟨i, -, hexec⟩ := perform_cases h
  · exact hf
  · exact exec_modelFault_ne_none hexec hf

/-- No step clears the model fault, a reset included: only an accepted command can write it at all. -/
theorem step_modelFault_ne_none (h : step s = .next t) (hf : s.modelFault ≠ none) : t.modelFault ≠ none := by
  obtain ⟨-, rfl⟩ | ⟨-, -, -, rfl⟩ | ⟨-, -, c, rest, -, hperform⟩ | ⟨-, k, e, -, rfl⟩ |
    ⟨-, code, rdata, -, rfl⟩ | ⟨-, code, rdata, -, rfl⟩ := step_cases h
  case inr.inr.inl => exact perform_modelFault_ne_none (s := s.hostTurn.accept c rest) hperform hf
  all_goals exact hf

/-- What every step keeps, every run keeps. -/
theorem runs_keeps {P : State → Prop} (hP : ∀ s t, step s = .next t → P s → P t) {n : Nat}
    (h : runs n s = .next t) (hs : P s) : P t := by
  induction n generalizing s with
  | zero => cases h; exact hs
  | succ n ih =>
    obtain ⟨u, hstep, hrun⟩ := runs_succ_cases h
    exact ih hrun (hP s u hstep hs)

/-- A state with a recorded model fault is not the end of a run (R90, R115). -/
theorem State.not_final_of_modelFault (hf : s.modelFault ≠ none) : ¬ s.Final :=
  fun ⟨_, _, _, hnone⟩ => hf hnone

/-- Settles O54: every step keeps the fault recorded, hence every run, and a state with a fault is not final. -/
theorem modelFaultIsNeverCleared : Obligations.ModelFaultIsNeverCleared := by
  intro s t n f hf hrun
  have hne : s.modelFault ≠ none := hf ▸ Option.some_ne_none f
  have hkept : t.modelFault ≠ none := runs_keeps (fun _ _ => step_modelFault_ne_none) hrun hne
  exact ⟨hkept, State.not_final_of_modelFault hkept⟩

/-! ### The idle engine (R101) -/

/-- Settles O9: the step of an idle engine without a command is the host's turn alone. -/
theorem idleEngineWaits : Obligations.IdleEngineWaits := fun _ => step_of_idle_nil

end Sys2Proof.Machine
end

/-! ## Reset and the response that nobody takes (70_reset_and_hazards.md) -/

section

namespace Sys2Proof.Machine

variable {s : State}

/-! ### A response nobody takes (R107) -/

/-- A state that a step leaves as it is stays through every run. -/
theorem runs_of_step_self (h : step s = .next s) (n : Nat) : runs n s = .next s := by
  induction n with
  | zero => rfl
  | succ n ih => rw [runs_succ_of_step h, ih]

/-- Settles O12: the step is the host's turn alone, and a host without a script stays as it is. -/
theorem untakenResponseHoldsTheEngine : Obligations.UntakenResponseHoldsTheEngine := by
  intro s code rdata n hh hs hp
  have hstep : step s = .next s := by rw [step_of_waits hh hp, s.hostTurn_of_script_nil hs]
  exact runs_of_step_self hstep n

/-! ### What a reset leaves (R102, R103, R115) -/

/-- After a reset the engine is ready for a command (R52, R102). -/
@[simp] theorem State.cmdReady_resetEngine (s : State) : s.resetEngine.cmdReady = true := rfl

/-- After a reset no response is presented (R52, R102). -/
@[simp] theorem State.response_resetEngine (s : State) : s.resetEngine.response = none := rfl

/-- After a reset no lane holds a defined value (R102, R103). -/
theorem State.unwritten_resetEngine (s : State) (j : Fin 25) : s.resetEngine.written[j.val] = false := by
  rw [State.resetEngine_written, Vector.getElem_replicate]

/-- While a command awaits its response the run has not ended (R115). -/
theorem State.not_final_of_unanswered (h : s.unanswered ≠ none) : ¬ s.Final :=
  fun ⟨_, _, hnone, _⟩ => h hnone

/-- Settles O14: the step is the reset of the engine after the host's turn, which writes PHASE, the lanes, WR and the
count of resets alone; all WR being false, every lane reads as the free value. -/
theorem resetAbandonsTheCommand : Obligations.ResetAbandonsTheCommand := by
  intro s hr
  have hwritten (j : Fin 25) := s.hostTurn.unwritten_resetEngine j
  have hread (j : Fin 25) := s.hostTurn.resetEngine.readLane_of_unwritten (hwritten j)
  have hnotFinal (hu : s.unanswered ≠ none) : ¬ s.hostTurn.resetEngine.Final := State.not_final_of_unanswered hu
  exact ⟨s.hostTurn.resetEngine, step_of_resets hr, rfl, State.cmdReady_resetEngine _, State.response_resetEngine _,
    rfl, hwritten, hread, rfl, rfl, rfl, rfl, rfl, rfl, hnotFinal⟩

end Sys2Proof.Machine
end

/-! ## Sample words of the decoder (95_test_vectors.md V16) -/

section

namespace Sys2Proof

variable {cmd : CmdWord}

/-! ### The four kinds of illegal word, one equation per bullet of R49 -/

theorem decode_of_unknown_opcode (h1 : opField cmd ≠ 0x01) (h2 : opField cmd ≠ 0x02) (h3 : opField cmd ≠ 0x03) :
    decode cmd = .error .unknownOpcode := by
  rw [decode, if_neg h1, if_neg h2, if_neg h3]

theorem decode_of_permute_reserved_set (hop : opField cmd = 0x01) (hres : permuteReservedField cmd ≠ 0) :
    decode cmd = .error .permuteReserved := by
  rw [decode_of_permute_opcode hop, if_neg hres]

theorem decodeLaneForm_of_reserved_set {make : BitVec 5 → Instr} (hres : laneReservedField cmd ≠ 0) :
    decodeLaneForm make cmd = .error .laneReserved :=
  if_pos hres

theorem decodeLaneForm_of_index_gt {make : BitVec 5 → Instr} (hres : laneReservedField cmd = 0)
    (hlane : ¬ laneField cmd ≤ 24) : decodeLaneForm make cmd = .error .laneIndex := by
  rw [decodeLaneForm, if_neg (not_not_intro hres), if_neg hlane]

/-! ### The sample words -/

/-- Settles O3: each accepted word is the encoding of its command, and each refused word falls under its bullet of
R49. -/
theorem sampleWordsDecodeAsListed : Obligations.SampleWordsDecodeAsListed := by
  have accepted {cmd : CmdWord} {i : Instr} (hwf : i.wf = true) (henc : encode i = cmd) : decode cmd = .ok i :=
    (decodeAgreesWithEncode cmd i).mpr ⟨hwf, henc⟩
  refine ⟨accepted rfl rfl, accepted rfl rfl, accepted rfl rfl, accepted rfl rfl, accepted rfl rfl, accepted rfl rfl,
    ?permuteReserved, ?wrlaneReserved, ?rdlaneIndex, ?unknownOpcode⟩
  case permuteReserved => exact decode_of_permute_reserved_set (by decide) (by decide)
  case wrlaneReserved =>
    rw [decode_of_wrlane_opcode (by decide)]
    exact decodeLaneForm_of_reserved_set (by decide)
  case rdlaneIndex =>
    rw [decode_of_rdlane_opcode (by decide)]
    exact decodeLaneForm_of_index_gt (by decide) (by decide)
  case unknownOpcode => exact decode_of_unknown_opcode (by decide) (by decide) (by decide)

end Sys2Proof
end
